-- ==== Sys2Proof/Word.lean ====
section
/-! DEFINITION. The two word types of the block: every cell is 8 bits and every CPU address is 16 bits (R8, R14 of
00_scope.md). Their arithmetic is that of BitVec, which wraps modulo 256 and modulo 65536 as R14 asks. -/

namespace Sys2Proof

/-- An 8-bit cell or register (`u8`, R12). -/
abbrev Byte := BitVec 8

/-- A 16-bit CPU address (`u16`, R12). -/
abbrev Word := BitVec 16

end Sys2Proof
end

