-- ==== Sys2Proof/Machine/Bits.lean ====
section
/-! DEFINITION. Bit fields, byte order and sign extension, in the notation of R13 (00_scope.md). -/

namespace Sys2Proof.Machine

/-- `v[15:8]`. -/
def hiByte (w : Word) : Byte := w.extractLsb' 8 8

/-- `v[7:0]`. -/
def loByte (w : Word) : Byte := w.extractLsb' 0 8

/-- `{hi, lo}` = hi * 256 + lo (R13, R102). -/
def mkWord (hi lo : Byte) : Word := hi ++ lo

/-- `zext16(v)`. -/
def zext16 (b : Byte) : Word := b.setWidth 16

/-- `sext16(v)`: bit 7 copied into bits 15..8. -/
def sext16 (b : Byte) : Word := b.signExtend 16

/-- One bit as an 8-bit number. -/
def bit8 (b : Bool) : Byte := if b then 1 else 0

/-- One bit as a natural number. -/
def bitNat (b : Bool) : Nat := if b then 1 else 0

/-- Do two addresses lie on different pages (R23)? -/
def pageDiffers (a b : Word) : Bool := a &&& 0xFF00 != b &&& 0xFF00

/-- The order of the 8 bits reversed (R442). -/
def reverse8 (b : Byte) : Byte :=
  BitVec.ofBool (b.getLsbD 0) ++ BitVec.ofBool (b.getLsbD 1) ++ BitVec.ofBool (b.getLsbD 2) ++ BitVec.ofBool (b.getLsbD 3) ++
    BitVec.ofBool (b.getLsbD 4) ++ BitVec.ofBool (b.getLsbD 5) ++ BitVec.ofBool (b.getLsbD 6) ++ BitVec.ofBool (b.getLsbD 7)

/-- `{b1, b0}` as a number 0..3. -/
def twoBits (b1 b0 : Bool) : Nat := 2 * bitNat b1 + bitNat b0

/-- `n` applications of `f`. -/
def iterate {α : Type} (f : α → α) : Nat → α → α
  | 0, a => a
  | n + 1, a => iterate f n (f a)

end Sys2Proof.Machine
end

