-- ==== Sys2Proof/Config.lean ====
section
/-! DEFINITION. What a model of this block takes from outside. The free inputs and the open parameters of R10
(00_scope.md) are constants WITH NO BODY, so that no proof can see their value; the parameters that have a decided
default are the fields of `Params`, held in the state as constants of a run (log 1). -/

namespace Sys2Proof

/-- `OPEN_BUS` (R10, R114, D11, D13): the n-th draw of an undriven read. Free: nothing is known of any value (log 2). -/
opaque Config.openBus : Nat → Byte

/-- `CONTROLLER_INPUT(pad, t)` (R660, D24): the eight buttons the host reports for a pad at CPU cycle `t`. Free: a pad may
report any combination (log 3). -/
opaque Config.controllerInput : Nat → Nat → Byte

/-- `PALETTE_RGB` (R64, R453, D18): the red, green and blue of a 9-bit pixel code. OPEN in the spec; only the display sink
sees it. DESIGN CHOICE: each component is one byte, since no rule gives its width (log 15). -/
opaque Config.paletteRgb : BitVec 9 → Byte × Byte × Byte

/-- `OUTPUT_RATE` (R581, D21), samples per second. OPEN in the spec; no core state depends on it. DESIGN CHOICE: it is a whole
number, since no rule says whether it is one (log 14). -/
opaque Config.outputRate : Nat

/-- The resampling of the cycle-by-cycle amplitudes to a stream at a rate (R581, D21). OPEN in the spec: nothing is known of it.
DESIGN CHOICE: a sample is an exact rational number, since no rule gives its format (log 14). -/
opaque Config.resample : Nat → List Rat → List Rat

/-- The percents of the `reportLoadProgress` calls of the `n`-th transition of a session, where it is a load: those before the
loader's error call, where it makes one, and those after it (R607, O5). Free: nothing is known of their values or their number.
DESIGN CHOICE: a percent is a rational number (log 23). -/
opaque Config.loadProgress : Nat → List Rat × List Rat

/-- The message text of the loader's error call in the `n`-th transition of a session (R601, R630, O5). Free: nothing is known of it
(log 23). -/
opaque Config.errorMessage : Nat → String

/-- The six stored flags of the status register P (R35). Bits 5 and 4 of its image are not stored (R43). -/
structure Flags where
  /-- carry, bit 0 (R37) -/
  c : Bool
  /-- zero, bit 1 (R38) -/
  z : Bool
  /-- interrupt disable, bit 2 (R39) -/
  i : Bool
  /-- decimal, bit 3; no arithmetic effect (R40) -/
  d : Bool
  /-- overflow, bit 6 (R41) -/
  v : Bool
  /-- negative, bit 7 (R42) -/
  n : Bool
deriving DecidableEq, Repr

/-- `POWER_ON_CPU` (R10, R49, D9): the CPU registers at power-on. PC has no entry: the reset sequence overwrites it. -/
structure PowerOnCpu where
  a : Byte
  x : Byte
  y : Byte
  s : Byte
  p : Flags
deriving DecidableEq, Repr

/-- The named parameters of R10 that have a decided default. A fill is given as its bytes from cell 0 on; cells past its end
are 0, so the empty list is the all-zero fill. -/
structure Params where
  /-- `UNOFFICIAL_ENABLED` (D4) -/
  unofficialEnabled : Bool
  /-- `NMI_ON_LATE_ENABLE` (D6) -/
  nmiOnLateEnable : Bool
  /-- `RESET_SP_DECREMENT`, 0 or 3 (D8) -/
  resetSpDecrement : Byte
  /-- `POWER_ON_CPU` (D9) -/
  powerOnCpu : PowerOnCpu
  /-- `RAM_FILL` (R50, D10). DESIGN CHOICE: the fill of one seed, and the same one at every power-on of a run (log 32). -/
  ramFill : List Byte
  /-- `VRAM_FILL` (D10) -/
  vramFill : List Byte
  /-- `OAM_FILL` (D10) -/
  oamFill : List Byte
  /-- `PALETTE_FILL` (D10) -/
  paletteFill : List Byte
  /-- `PRG_RAM_FILL` (D10, R632) -/
  prgRamFill : List Byte
  /-- `CHR_RAM_FILL` (D10) -/
  chrRamFill : List Byte
  /-- `PPUDATA_RENDER_GLITCH` (D14) -/
  ppudataRenderGlitch : Bool
  /-- `ODD_SKIP_REQUIRES_RENDERING` (D15) -/
  oddSkipRequiresRendering : Bool
  /-- `DMC_STALL_CYCLES`, 0..4 (D22) -/
  dmcStallCycles : Fin 5
  /-- `CHR_HEADER_UNIT_KIB`, 4 or 8 (D25) -/
  chrHeaderUnitKib : Nat
  /-- `PRG_RAM_PRESENT` (D27) -/
  prgRamPresent : Bool
  /-- `CYCLE_TABLE` (D39): the base cycles of opcode `n` at place `n` -/
  cycleTable : List Nat
deriving DecidableEq, Repr

end Sys2Proof
end

