-- ==== Sys2Proof/Machine/Tables.lean ====
section
/-! DEFINITION. The default parameters of R10 (00_scope.md), with the default cycle table of R185 (30_encoding.md), and the
fixed tables of the APU (51_apu.md). -/

namespace Sys2Proof

/-- `CYCLE_TABLE`'s default (R185), one line per high nibble. An opcode that always faults has no cost; its place holds 0,
which nothing reads. -/
def Params.cycles : List Nat :=
  [7, 6, 0, 8, 3, 3, 5, 5, 3, 2, 2, 2, 4, 4, 6, 6] ++
  [2, 5, 0, 8, 4, 4, 6, 6, 2, 4, 2, 7, 4, 4, 7, 7] ++
  [6, 6, 0, 8, 3, 3, 5, 5, 4, 2, 2, 2, 4, 4, 6, 6] ++
  [2, 5, 0, 8, 4, 4, 6, 6, 2, 4, 2, 7, 4, 4, 7, 7] ++
  [6, 6, 0, 8, 3, 3, 5, 5, 3, 2, 2, 2, 3, 4, 6, 6] ++
  [2, 5, 0, 8, 4, 4, 6, 6, 2, 4, 2, 7, 4, 4, 7, 7] ++
  [6, 6, 0, 8, 3, 3, 5, 5, 4, 2, 2, 2, 5, 4, 6, 6] ++
  [2, 5, 0, 8, 4, 4, 6, 6, 2, 4, 2, 7, 4, 4, 7, 7] ++
  [2, 6, 2, 6, 3, 3, 3, 3, 2, 2, 2, 0, 4, 4, 4, 4] ++
  [2, 6, 0, 0, 4, 4, 4, 4, 2, 5, 2, 0, 0, 5, 0, 0] ++
  [2, 6, 2, 6, 3, 3, 3, 3, 2, 2, 2, 0, 4, 4, 4, 4] ++
  [2, 5, 0, 5, 4, 4, 4, 4, 2, 4, 2, 0, 4, 4, 4, 4] ++
  [2, 6, 2, 8, 3, 3, 5, 5, 2, 2, 2, 2, 4, 4, 6, 6] ++
  [2, 5, 0, 8, 4, 4, 6, 6, 2, 4, 2, 7, 4, 4, 7, 7] ++
  [2, 6, 2, 8, 3, 3, 5, 5, 2, 2, 2, 2, 4, 4, 6, 6] ++
  [2, 5, 0, 8, 4, 4, 6, 6, 2, 4, 2, 7, 4, 4, 7, 7]

/-- The default of every parameter of R10 that has one. -/
def Params.default : Params :=
  { unofficialEnabled := true,
    nmiOnLateEnable := false,
    resetSpDecrement := 0,
    powerOnCpu := { a := 0x00, x := 0x00, y := 0x00, s := 0xFD,
                    p := { c := false, z := false, i := true, d := false, v := false, n := false } },
    ramFill := [], vramFill := [], oamFill := [], paletteFill := [], prgRamFill := [], chrRamFill := [],
    ppudataRenderGlitch := false,
    oddSkipRequiresRendering := true,
    dmcStallCycles := 4,
    chrHeaderUnitKib := 8,
    prgRamPresent := true,
    cycleTable := Params.cycles }

/-- `LEN` (R502). -/
def Machine.lengthTable : List Byte :=
  [10, 254, 20, 2, 40, 4, 80, 6, 160, 8, 60, 10, 14, 12, 26, 14] ++
  [12, 16, 24, 18, 48, 20, 96, 22, 192, 24, 72, 26, 16, 28, 32, 30]

/-- `DUTY` (R506), one line per duty, indexed by the sequencer step. -/
def Machine.dutyTable : List (List Bool) :=
  [[false, true, false, false, false, false, false, false],
   [false, true, true, false, false, false, false, false],
   [false, true, true, true, true, false, false, false],
   [true, false, false, true, true, true, true, true]]

/-- `TRI` (R521). -/
def Machine.triangleTable : List Nat :=
  [15, 14, 13, 12, 11, 10, 9, 8, 7, 6, 5, 4, 3, 2, 1, 0] ++
  [0, 1, 2, 3, 4, 5, 6, 7, 8, 9, 10, 11, 12, 13, 14, 15]

/-- `NOISE_PERIOD` (R528). -/
def Machine.noisePeriods : List (BitVec 12) :=
  [4, 8, 16, 32, 64, 96, 128, 160, 202, 254, 380, 508, 762, 1016, 2034, 4068]

/-- `DMC_RATE` (R552). -/
def Machine.dmcRates : List (BitVec 9) :=
  [428, 380, 340, 320, 286, 254, 226, 214, 190, 160, 142, 128, 106, 84, 72, 54]

end Sys2Proof
end

