-- ==== Sys2Proof/Machine/State.lean ====
section
/-! DEFINITION. The complete state tuple of the block (R77 of 10_state.md) as plain data, the faults and refusals a step can
end in, and the state right after power-on and reset. -/

namespace Sys2Proof.Machine

/-- Storage of `w`-bit cells in canonical form: (index, value) pairs, the indexes strictly rising, no value 0. A cell that is
not listed reads as 0, the default of every `*_FILL` parameter (D10; log 5). -/
abbrev Cells (w : Nat) := List (Nat × BitVec w)

/-- Storage of bytes: `Cells 8` is a list of `Host.Cell`. -/
abbrev Memory := List Host.Cell

/-- CPU registers (R30 to R42). -/
structure Cpu where
  /-- accumulator (R31) -/
  a : Byte
  /-- index register X (R32) -/
  x : Byte
  /-- index register Y (R32) -/
  y : Byte
  /-- stack pointer; names the cell 0x0100 | S (R33) -/
  s : Byte
  /-- program counter: at an instruction boundary the address of the next opcode (R34) -/
  pc : Word
  /-- the six stored flags (R35) -/
  p : Flags
deriving DecidableEq, Repr

/-- What `fault` records once it is set: `UnimplementedOpcode(pc, opcode)` (R46, R705). -/
structure FaultRecord where
  pc : Word
  opcode : Byte
deriving DecidableEq, Repr

/-- Controller port state (R51). -/
structure Ports where
  /-- `ctrl.strobe`: bit 0 of the last write to 0x4016 -/
  strobe : Bool
  /-- `ctrl.shift[0]` -/
  shift0 : Byte
  /-- `ctrl.shift[1]` -/
  shift1 : Byte
deriving DecidableEq, Repr

/-- One of the eight loaded sprites (R63): the pattern row with horizontal flip applied (bit 7 is the leftmost pixel), the
attribute byte and the left column. -/
structure SpriteSlot where
  lo : Byte
  hi : Byte
  attr : Byte
  x : Byte
deriving DecidableEq, Repr

/-- PPU state (R52 to R64). -/
structure Ppu where
  /-- PPUCTRL (R52) -/
  ctrl : Byte
  /-- PPUMASK (R53) -/
  mask : Byte
  /-- PPUSTATUS.VBLANK, bit 7 (R54) -/
  vblank : Bool
  /-- PPUSTATUS.SPR0_HIT, bit 6 (R54) -/
  spr0Hit : Bool
  /-- PPUSTATUS.SPR_OVERFLOW, bit 5 (R54) -/
  sprOverflow : Bool
  /-- OAMADDR (R55) -/
  oamAddr : Byte
  /-- current VRAM address (R56) -/
  v : BitVec 15
  /-- temporary VRAM address (R56) -/
  t : BitVec 15
  /-- fine X scroll (R56) -/
  x : BitVec 3
  /-- the shared write toggle: false before the first write of a pair (R56) -/
  w : Bool
  /-- PPUDATA read buffer (R57) -/
  readBuf : Byte
  /-- 0..261 (R58) -/
  scanline : Nat
  /-- 0..340 (R58) -/
  dot : Nat
  /-- frame parity (R58) -/
  oddFrame : Bool
  /-- nametable pages A, B, C, D, each 0x400 bytes (R59) -/
  ntRam : Memory
  /-- palette RAM, 32 cells of 6 bits (R60) -/
  palette : Cells 6
  /-- OAM, 64 entries of Y, tile, attributes, X (R61) -/
  oam : Memory
  /-- background latches (R62) -/
  bgNt : Byte
  bgAt : BitVec 2
  bgLo : Byte
  bgHi : Byte
  /-- pattern shifters (R62) -/
  shLo : Word
  shHi : Word
  /-- attribute shifters (R62) -/
  shALo : Word
  shAHi : Word
  /-- number of sprites loaded for the current line, 0..8 (R63) -/
  sprCount : Nat
  /-- the eight sprite slots (R63) -/
  slots : Vector SpriteSlot 8
  /-- slot 0 holds OAM entry 0 (R63) -/
  spr0Loaded : Bool
  /-- the frame buffer being written, cell 256 * line + column (R64) -/
  fbBack : Cells 9
  /-- the completed frame buffer (R64) -/
  fbFront : Cells 9
deriving DecidableEq, Repr

/-- The envelope unit of pulse 1, pulse 2 and noise (R66, R68, R504). `halt` is also the length-counter halt. -/
structure Envelope where
  halt : Bool
  constVol : Bool
  vol : BitVec 4
  start : Bool
  div : BitVec 4
  decay : BitVec 4
deriving DecidableEq, Repr

/-- A pulse channel (R66). -/
structure Pulse where
  enabled : Bool
  duty : BitVec 2
  env : Envelope
  swEnable : Bool
  swPeriod : BitVec 3
  swNegate : Bool
  swShift : BitVec 3
  swReload : Bool
  swDiv : BitVec 3
  period : BitVec 11
  timer : BitVec 11
  seq : BitVec 3
  length : Byte
deriving DecidableEq, Repr

/-- The triangle channel (R67). -/
structure Triangle where
  enabled : Bool
  control : Bool
  linReloadVal : BitVec 7
  lin : BitVec 7
  linReload : Bool
  period : BitVec 11
  timer : BitVec 11
  seq : BitVec 5
  length : Byte
deriving DecidableEq, Repr

/-- The noise channel (R68). -/
structure Noise where
  enabled : Bool
  env : Envelope
  mode : Bool
  periodIdx : BitVec 4
  timer : BitVec 12
  lfsr : BitVec 15
  length : Byte
deriving DecidableEq, Repr

/-- The delta modulation channel (R69). -/
structure Dmc where
  irqEnable : Bool
  loop : Bool
  rateIdx : BitVec 4
  timer : BitVec 9
  level : BitVec 7
  addrReg : Byte
  lenReg : Byte
  curAddr : Word
  remaining : BitVec 12
  buffer : Byte
  bufferFull : Bool
  shift : Byte
  bitsLeft : BitVec 4
  silence : Bool
  irqFlag : Bool
deriving DecidableEq, Repr

/-- The frame sequencer (R70). -/
structure FrameSeq where
  /-- false is 4-step, true is 5-step -/
  mode : Bool
  irqInhibit : Bool
  /-- CPU cycles since the last restart -/
  cycle : Nat
  irqFlag : Bool
deriving DecidableEq, Repr

/-- APU state (R66 to R70). -/
structure Apu where
  pulse1 : Pulse
  pulse2 : Pulse
  tri : Triangle
  noise : Noise
  dmc : Dmc
  frame : FrameSeq
deriving DecidableEq, Repr

/-- Nametable mirroring modes (R72, R133). -/
inductive Mirroring where
  | horizontal
  | vertical
  | fourScreen
  | singleA
  | singleB
deriving DecidableEq, Repr

/-- Cartridge configuration, fixed when an image is loaded (R72). -/
structure Cart where
  /-- N, the number of 16 KiB PRG banks -/
  prgBanks : Nat
  /-- byte `j` of PRG bank `n` is cell `16384 * n + j` -/
  prg : Memory
  /-- M, the number of 4 KiB CHR banks -/
  chrBanks : Nat
  /-- byte `j` of CHR bank `m` is cell `4096 * m + j` -/
  chr : Memory
  mapperId : Byte
  mirroring : Mirroring
  battery : Bool
  trainer : Bool
deriving DecidableEq, Repr

/-- Mapper and cartridge RAM state (R73 to R75). The baseline mapper has no override and no IRQ counter, so neither is
stored (R73, R623, R624). -/
structure Mapper where
  /-- a valid image has been loaded, so a mapper is bound (R631) -/
  bound : Bool
  prgSlot0 : Nat
  prgSlot1 : Nat
  chrSlot0 : Nat
  chrSlot1 : Nat
  /-- CPU 0x6000–0x7FFF (R74) -/
  prgRam : Memory
  /-- pattern tables of an image with no CHR bank (R74) -/
  chrRam : Memory
  /-- `mapper_warnings` (R75) -/
  warnings : Nat
deriving DecidableEq, Repr

/-- The whole machine (R77), with the host's running flag (R48), the parameters (R10; log 1) and the model's own fields: the
count of open-bus draws (log 2) and the step-local variables of R650 (log 8). -/
structure State where
  cpu : Cpu
  /-- the NMI edge latch (R44) -/
  nmiPending : Bool
  /-- none, or the recorded `UnimplementedOpcode` (R46) -/
  fault : Option FaultRecord
  /-- CPU cycles since power-on (R47) -/
  cpuCycles : Nat
  /-- the host's running flag (R48, R690) -/
  running : Bool
  /-- 2048 bytes of CPU RAM (R50) -/
  ram : Memory
  ports : Ports
  ppu : Ppu
  apu : Apu
  cart : Cart
  mapper : Mapper
  params : Params
  /-- the model's own: how many OPEN_BUS draws were made -/
  draws : Nat
  /-- the model's own: `c` of R650, the cost of the running instruction -/
  cost : Nat
  /-- the model's own: `dma_cycles` of R650 -/
  dmaCycles : Nat
  /-- the model's own: `stall_pending` of R650 -/
  stallPending : Nat
deriving DecidableEq, Repr

/-- Why a step answers no next state. None of them is raised by an instruction's meaning: each is a state the spec calls
stuck (93_implementation_defined.md, 2.6). -/
inductive Fault where
  /-- `step` on a state whose `fault` is recorded (R46, R705). Safe: the spec gives such a state no step. -/
  | unimplementedOpcode (pc : Word) (opcode : Byte)
  /-- `step` before the first valid load (R631). Safe: the spec gives no step. -/
  | noMapper
  /-- `step` while the host's running flag is 0 (R690). Safe: the spec gives no step. -/
  | paused
deriving DecidableEq, Repr

/-- Why an instruction has no meaning. -/
inductive Refusal where
  /-- an arm of `exec` with no meaning yet; no arm is left so. Safe: the machine stops. -/
  | notModelled (mnemonic : String)
deriving DecidableEq, Repr

/-- An outcome of this machine. -/
abbrev Result := Host.Outcome State Fault Refusal

/-- Envelope after power-on and reset (R71). -/
def Envelope.zero : Envelope :=
  { halt := false, constVol := false, vol := 0, start := false, div := 0, decay := 0 }

/-- Pulse channel at power-on (R71). -/
def Pulse.powerOn : Pulse :=
  { enabled := false, duty := 0, env := Envelope.zero, swEnable := false, swPeriod := 0, swNegate := false, swShift := 0,
    swReload := false, swDiv := 0, period := 0, timer := 0, seq := 0, length := 0 }

/-- Triangle at power-on (R71). -/
def Triangle.powerOn : Triangle :=
  { enabled := false, control := false, linReloadVal := 0, lin := 0, linReload := false, period := 0, timer := 0, seq := 0,
    length := 0 }

/-- Noise at power-on: the shift register is 1 (R71). -/
def Noise.powerOn : Noise :=
  { enabled := false, env := Envelope.zero, mode := false, periodIdx := 0, timer := 0, lfsr := 1, length := 0 }

/-- DMC at power-on: silent, eight bits left, timer 428 (R71). -/
def Dmc.powerOn : Dmc :=
  { irqEnable := false, loop := false, rateIdx := 0, timer := 428, level := 0, addrReg := 0, lenReg := 0, curAddr := 0,
    remaining := 0, buffer := 0, bufferFull := false, shift := 0, bitsLeft := 8, silence := true, irqFlag := false }

/-- Frame sequencer at power-on (R71). -/
def FrameSeq.powerOn : FrameSeq := { mode := false, irqInhibit := false, cycle := 0, irqFlag := false }

/-- APU at power-on (R71). -/
def Apu.powerOn : Apu :=
  { pulse1 := Pulse.powerOn, pulse2 := Pulse.powerOn, tri := Triangle.powerOn, noise := Noise.powerOn, dmc := Dmc.powerOn,
    frame := FrameSeq.powerOn }

/-- An empty sprite slot (R63, R65). -/
def SpriteSlot.zero : SpriteSlot := { lo := 0, hi := 0, attr := 0, x := 0 }

/-- PPU at power-on with all-zero fills: every field is zero (R65, D12). -/
def Ppu.powerOn : Ppu :=
  { ctrl := 0, mask := 0, vblank := false, spr0Hit := false, sprOverflow := false, oamAddr := 0, v := 0, t := 0, x := 0,
    w := false, readBuf := 0, scanline := 0, dot := 0, oddFrame := false, ntRam := [], palette := [], oam := [], bgNt := 0,
    bgAt := 0, bgLo := 0, bgHi := 0, shLo := 0, shHi := 0, shALo := 0, shAHi := 0, sprCount := 0,
    slots := #v[SpriteSlot.zero, SpriteSlot.zero, SpriteSlot.zero, SpriteSlot.zero,
                SpriteSlot.zero, SpriteSlot.zero, SpriteSlot.zero, SpriteSlot.zero],
    spr0Loaded := false, fbBack := [], fbFront := [] }

/-- The machine right after power-on and the reset sequence (R801, R800) with the default parameters (R10). The cartridge is
the empty one: the 16-byte image whose header bytes after the magic are all 0 (no PRG bank, no CHR bank), for which D34 gives
every read of 0x8000–0xFFFF as 0, so the reset vector is 0x0000 (log 4). The reset sequence has advanced the devices by 7 CPU
cycles (21 dots, 7 APU ticks), as in the state S0 of 95_test_vectors.md: the pulse sequencers, the noise timer and shift
register and the DMC timer stand where those ticks leave them. `reset_is_power_on` (Laws/HostOps.lean) proves that power-on computes this
very state. -/
def State.reset : State :=
  { cpu := { a := 0x00, x := 0x00, y := 0x00, s := 0xFD, pc := 0x0000,
             p := { c := false, z := false, i := true, d := false, v := false, n := false } },
    nmiPending := false,
    fault := none,
    cpuCycles := 7,
    running := true,
    ram := [],
    ports := { strobe := false, shift0 := 0x00, shift1 := 0x00 },
    ppu := { Ppu.powerOn with dot := 21 },
    apu := { pulse1 := { Pulse.powerOn with seq := 5 },
             pulse2 := { Pulse.powerOn with seq := 5 },
             tri := Triangle.powerOn,
             noise := { Noise.powerOn with timer := 2, lfsr := 0x2000 },
             dmc := { Dmc.powerOn with timer := 421 },
             frame := { FrameSeq.powerOn with cycle := 7 } },
    cart := { prgBanks := 0, prg := [], chrBanks := 0, chr := [], mapperId := 0x00, mirroring := .horizontal,
              battery := false, trainer := false },
    mapper := { bound := true, prgSlot0 := 0, prgSlot1 := 0, chrSlot0 := 0, chrSlot1 := 0, prgRam := [], chrRam := [],
                warnings := 0 },
    params := Params.default,
    draws := 0,
    cost := 0,
    dmaCycles := 0,
    stallPending := 0 }

end Sys2Proof.Machine
end

