-- ==== Sys2Proof/Machine/Memory.lean ====
section
/-! DEFINITION. The named operations over storage. Storage is a list of (index, value) pairs in one canonical form: indexes
strictly rising, no value 0, and an index that is not listed reads as 0 (D10's all-zero fills; log 5). -/

namespace Sys2Proof.Machine

/-- What an unlisted cell reads as. -/
def unlisted (w : Nat) : BitVec w := 0

/-- The cell `a`. -/
def cellsRead {w : Nat} : Cells w → Nat → BitVec w
  | [], _ => unlisted w
  | (k, v) :: m, a => if k == a then v else cellsRead m a

/-- Puts the pair in its place; a value equal to the unlisted value is not listed. -/
def cellsCons {w : Nat} (a : Nat) (v : BitVec w) (m : Cells w) : Cells w :=
  if v == unlisted w then m else (a, v) :: m

/-- Stores `v` at `a`, keeping the canonical form. -/
def cellsWrite {w : Nat} : Cells w → Nat → BitVec w → Cells w
  | [], a, v => cellsCons a v []
  | (k, u) :: m, a, v =>
    if k < a then (k, u) :: cellsWrite m a v
    else if k == a then cellsCons a v m
    else cellsCons a v ((k, u) :: m)

/-- The canonical form of a list whose indexes all lie above `lo`. -/
def cellsAbove {w : Nat} : Nat → Cells w → Bool
  | _, [] => true
  | lo, (k, v) :: m => decide (lo < k) && v != unlisted w && cellsAbove k m

/-- The canonical form: indexes strictly rising, no entry equal to the unlisted value. -/
def Memory.wf {w : Nat} : Cells w → Bool
  | [] => true
  | (k, v) :: m => v != unlisted w && cellsAbove k m

/-- The storage that holds the listed values from index `a` on. -/
def cellsOfList {w : Nat} : Nat → List (BitVec w) → Cells w
  | _, [] => []
  | a, v :: vs => cellsCons a v (cellsOfList (a + 1) vs)

/-- Writes the listed values one after another from index `a` on. -/
def cellsWriteList {w : Nat} : Cells w → Nat → List (BitVec w) → Cells w
  | m, _, [] => m
  | m, a, v :: vs => cellsWriteList (cellsWrite m a v) (a + 1) vs

end Sys2Proof.Machine
end

