-- ==== Sys2Proof/Machine/ApuUnits.lean ====
section
/-! DEFINITION. The APU's units, channel registers, clocks and outputs, each on its own channel's state (51_apu.md). -/

namespace Sys2Proof.Machine

/-- `LEN[d >> 3]` (R502). -/
def lengthLoad (d : Byte) : Byte := lengthTable.getD (d.toNat / 8) 0

/-- The length counter at a half frame (R503). -/
def lengthClock (halt : Bool) (len : Byte) : Byte := if len != 0 && !halt then len - 1 else len

/-- The length counter after a write of the channel's fourth register (R503). -/
def lengthWrite (enabled : Bool) (d len : Byte) : Byte := if enabled then lengthLoad d else len

/-- The envelope at a quarter frame (R504). -/
def envelopeClock (e : Envelope) : Envelope :=
  if e.start then { e with start := false, decay := 15, div := e.vol }
  else if e.div == 0 then
    { e with div := e.vol, decay := if e.decay != 0 then e.decay - 1 else if e.halt then 15 else e.decay }
  else { e with div := e.div - 1 }

/-- `volume()` (R504). -/
def envelopeVolume (e : Envelope) : Nat := (if e.constVol then e.vol else e.decay).toNat

/-- A write of a channel's first register to its envelope: bits 5, 4 and 3..0 (R510, R525). -/
def envelopeWrite (d : Byte) (e : Envelope) : Envelope :=
  { e with halt := d.getLsbD 5, constVol := d.getLsbD 4, vol := d.setWidth 4 }

/-- The sweep's `target`; pulse 1 subtracts one more (R505). -/
def sweepTarget (one : Bool) (p : Pulse) : Nat :=
  let change := p.period.toNat >>> p.swShift.toNat
  if p.swNegate then p.period.toNat - change - bitNat one else p.period.toNat + change

/-- The sweep's `muted` (R505). -/
def sweepMuted (one : Bool) (p : Pulse) : Bool := decide (p.period.toNat < 8) || decide (0x7FF < sweepTarget one p)

/-- The sweep at a half frame (R505). -/
def sweepClock (one : Bool) (p : Pulse) : Pulse :=
  let p1 :=
    if p.swDiv == 0 && p.swEnable && p.swShift != 0 && !sweepMuted one p then
      { p with period := BitVec.ofNat 11 (sweepTarget one p) }
    else p
  if p1.swDiv == 0 || p1.swReload then { p1 with swDiv := p1.swPeriod, swReload := false }
  else { p1 with swDiv := p1.swDiv - 1 }

/-- The pulse timer and sequencer (R506). -/
def pulseTimer (p : Pulse) : Pulse :=
  if p.timer == 0 then { p with timer := p.period, seq := p.seq + 7 } else { p with timer := p.timer - 1 }

/-- `DUTY[duty][seq]` (R506). -/
def dutyBit (p : Pulse) : Bool := (dutyTable.getD p.duty.toNat []).getD p.seq.toNat false

/-- The pulse output 0..15 (R507). -/
def pulseOut (one : Bool) (p : Pulse) : Nat :=
  if p.length == 0 || sweepMuted one p || !dutyBit p then 0 else envelopeVolume p.env

/-- The low 8 bits of an 11-bit period (R512, R517). -/
def periodLow (period : BitVec 11) (d : Byte) : BitVec 11 := (period &&& 0x700) ||| d.setWidth 11

/-- The high 3 bits of an 11-bit period (R513, R518). -/
def periodHigh (period : BitVec 11) (d : Byte) : BitVec 11 := (period &&& 0x0FF) ||| ((d &&& 0x07).setWidth 11 <<< 8)

/-- A write of pulse register `r` (0..3) (R510 to R513). -/
def pulseWrite (r : Nat) (d : Byte) (p : Pulse) : Pulse :=
  if r == 0 then { p with duty := d.extractLsb' 6 2, env := envelopeWrite d p.env }
  else if r == 1 then
    { p with swEnable := d.getLsbD 7, swPeriod := d.extractLsb' 4 3, swNegate := d.getLsbD 3, swShift := d.setWidth 3,
             swReload := true }
  else if r == 2 then { p with period := periodLow p.period d }
  else
    { p with period := periodHigh p.period d, length := lengthWrite p.enabled d p.length, seq := 0,
             env := { p.env with start := true } }

/-- A write of triangle register `r`: 0 is 0x4008, 2 is 0x400A, 3 is 0x400B; 1 is unused (R515 to R518). -/
def triangleWrite (r : Nat) (d : Byte) (t : Triangle) : Triangle :=
  if r == 0 then { t with control := d.getLsbD 7, linReloadVal := d.setWidth 7 }
  else if r == 1 then t
  else if r == 2 then { t with period := periodLow t.period d }
  else
    { t with period := periodHigh t.period d, length := lengthWrite t.enabled d t.length, linReload := true }

/-- The linear counter at a quarter frame (R520). -/
def linearClock (t : Triangle) : Triangle :=
  { t with
    lin := if t.linReload then t.linReloadVal else if t.lin != 0 then t.lin - 1 else t.lin,
    linReload := if t.control then t.linReload else false }

/-- The triangle timer (R522). -/
def triangleTimer (t : Triangle) : Triangle :=
  if t.timer == 0 then
    { t with timer := t.period, seq := if t.length != 0 && t.lin != 0 then t.seq + 1 else t.seq }
  else { t with timer := t.timer - 1 }

/-- The triangle output 0..15 (R521, R522). R503 ends with "a channel with `length == 0` outputs 0" and names the triangle among its
channels; R522 says that the triangle is not silenced and holds its last step. DEDUCED: R522, the rule of the triangle alone, is
followed (log 30). -/
def triangleOut (t : Triangle) : Nat := triangleTable.getD t.seq.toNat 0

/-- A write of noise register `r`: 0 is 0x400C, 2 is 0x400E, 3 is 0x400F; 1 is unused (R516, R525 to R527). -/
def noiseWrite (r : Nat) (d : Byte) (n : Noise) : Noise :=
  if r == 0 then { n with env := envelopeWrite d n.env }
  else if r == 1 then n
  else if r == 2 then { n with mode := d.getLsbD 7, periodIdx := d.setWidth 4 }
  else { n with length := lengthWrite n.enabled d n.length, env := { n.env with start := true } }

/-- The next value of the noise shift register (R529). -/
def lfsrNext (mode : Bool) (l : BitVec 15) : BitVec 15 :=
  let fb := l.getLsbD 0 ^^ (if mode then l.getLsbD 6 else l.getLsbD 1)
  (l >>> 1) ||| (if fb then 0x4000 else 0x0000)

/-- The noise timer (R529). -/
def noiseTimer (n : Noise) : Noise :=
  if n.timer.toNat ≤ 1 then
    { n with timer := noisePeriods.getD n.periodIdx.toNat 0, lfsr := lfsrNext n.mode n.lfsr }
  else { n with timer := n.timer - 1 }

/-- The noise output 0..15 (R530). -/
def noiseOut (n : Noise) : Nat := if n.length == 0 || n.lfsr.getLsbD 0 then 0 else envelopeVolume n.env

/-- A write of DMC register `r` (0..3: 0x4010 to 0x4013) (R531 to R534). -/
def dmcWrite (r : Nat) (d : Byte) (c : Dmc) : Dmc :=
  if r == 0 then
    { c with irqEnable := d.getLsbD 7, loop := d.getLsbD 6, rateIdx := d.setWidth 4,
             irqFlag := if d.getLsbD 7 then c.irqFlag else false }
  else if r == 1 then { c with level := d.setWidth 7 }
  else if r == 2 then { c with addrReg := d }
  else { c with lenReg := d }

/-- `restart_sample()` (R553). -/
def restartSample (c : Dmc) : Dmc :=
  { c with curAddr := 0xC000 + (zext16 c.addrReg) * 64, remaining := c.lenReg.setWidth 12 * 16 + 1 }

/-- The output level after one clock of a sounding output unit (R551). -/
def dmcLevel (c : Dmc) : BitVec 7 :=
  if c.silence then c.level
  else if c.shift.getLsbD 0 then (if c.level.toNat ≤ 125 then c.level + 2 else c.level)
  else (if 2 ≤ c.level.toNat then c.level - 2 else c.level)

/-- `dmc_output_clock()` (R551). -/
def dmcOutputClock (c : Dmc) : Dmc :=
  let c1 := { c with level := dmcLevel c, shift := c.shift >>> 1, bitsLeft := c.bitsLeft - 1 }
  if c1.bitsLeft == 0 then
    if c1.bufferFull then { c1 with bitsLeft := 8, silence := false, shift := c1.buffer, bufferFull := false }
    else { c1 with bitsLeft := 8, silence := true }
  else c1

/-- The DMC timer (R550, R552). -/
def dmcTimer (c : Dmc) : Dmc :=
  if c.timer.toNat ≤ 1 then dmcOutputClock { c with timer := dmcRates.getD c.rateIdx.toNat 0 }
  else { c with timer := c.timer - 1 }

/-- The memory reader wants a byte (R557). -/
def dmcWants (c : Dmc) : Bool := !c.bufferFull && c.remaining != 0

/-- The DMC after its reader has fetched `b` (R557, R558). -/
def dmcFetched (b : Byte) (c : Dmc) : Dmc :=
  let c1 := { c with buffer := b, bufferFull := true,
                     curAddr := if c.curAddr == 0xFFFF then 0x8000 else c.curAddr + 1,
                     remaining := c.remaining - 1 }
  if c1.remaining == 0 then
    if c1.loop then restartSample c1 else if c1.irqEnable then { c1 with irqFlag := true } else c1
  else c1

/-- The DMC output 0..127 (R551). -/
def dmcOut (c : Dmc) : Nat := c.level.toNat

/-- `quarter_frame()` (R543). -/
def quarterFrame (a : Apu) : Apu :=
  { a with
    pulse1 := { a.pulse1 with env := envelopeClock a.pulse1.env },
    pulse2 := { a.pulse2 with env := envelopeClock a.pulse2.env },
    tri := linearClock a.tri,
    noise := { a.noise with env := envelopeClock a.noise.env } }

/-- A pulse channel at a half frame: its length counter and its sweep (R544). -/
def pulseHalfFrame (one : Bool) (p : Pulse) : Pulse :=
  sweepClock one { p with length := lengthClock p.env.halt p.length }

/-- `half_frame()` (R544). -/
def halfFrame (a : Apu) : Apu :=
  { a with
    pulse1 := pulseHalfFrame true a.pulse1,
    pulse2 := pulseHalfFrame false a.pulse2,
    tri := { a.tri with length := lengthClock a.tri.control a.tri.length },
    noise := { a.noise with length := lengthClock a.noise.env.halt a.noise.length } }

/-- `FrameTick()` in 4-step mode, the cycle already advanced (R541). -/
def frameTick4 (a : Apu) : Apu :=
  if a.frame.cycle == 7457 then quarterFrame a
  else if a.frame.cycle == 14913 then halfFrame (quarterFrame a)
  else if a.frame.cycle == 22371 then quarterFrame a
  else if a.frame.cycle == 29829 then
    let a1 := halfFrame (quarterFrame a)
    if a1.frame.irqInhibit then a1 else { a1 with frame := { a1.frame with irqFlag := true } }
  else if a.frame.cycle == 29830 then { a with frame := { a.frame with cycle := 0 } }
  else a

/-- `FrameTick()` in 5-step mode, the cycle already advanced (R542). -/
def frameTick5 (a : Apu) : Apu :=
  if a.frame.cycle == 7457 then quarterFrame a
  else if a.frame.cycle == 14913 then halfFrame (quarterFrame a)
  else if a.frame.cycle == 22371 then quarterFrame a
  else if a.frame.cycle == 37281 then halfFrame (quarterFrame a)
  else if a.frame.cycle == 37282 then { a with frame := { a.frame with cycle := 0 } }
  else a

/-- `FrameTick()` (R541, R542). -/
def frameTick (a : Apu) : Apu :=
  let a1 := { a with frame := { a.frame with cycle := a.frame.cycle + 1 } }
  if a1.frame.mode then frameTick5 a1 else frameTick4 a1

/-- Frame counter write, 0x4017 (R540). -/
def writeFrameCounter (d : Byte) (a : Apu) : Apu :=
  let a1 := { a with frame := { mode := d.getLsbD 7, irqInhibit := d.getLsbD 6, cycle := 0,
                                irqFlag := if d.getLsbD 6 then false else a.frame.irqFlag } }
  if d.getLsbD 7 then halfFrame (quarterFrame a1) else a1

/-- The pulse timers run on odd CPU cycles only (R501). -/
def pulseTimers (k : Nat) (a : Apu) : Apu :=
  if k % 2 == 1 then { a with pulse1 := pulseTimer a.pulse1, pulse2 := pulseTimer a.pulse2 } else a

/-- `ApuTick(k)` but for the DMC reader (R501). -/
def apuClock (k : Nat) (a : Apu) : Apu :=
  let a1 := frameTick a
  let a2 := { a1 with tri := triangleTimer a1.tri }
  let a3 := pulseTimers k a2
  { a3 with noise := noiseTimer a3.noise, dmc := dmcTimer a3.dmc }

/-- The `enabled` and `length` effects of a 0x4015 write (R536). -/
def enableChannels (d : Byte) (a : Apu) : Apu :=
  { a with
    pulse1 := { a.pulse1 with enabled := d.getLsbD 0, length := if d.getLsbD 0 then a.pulse1.length else 0 },
    pulse2 := { a.pulse2 with enabled := d.getLsbD 1, length := if d.getLsbD 1 then a.pulse2.length else 0 },
    tri := { a.tri with enabled := d.getLsbD 2, length := if d.getLsbD 2 then a.tri.length else 0 },
    noise := { a.noise with enabled := d.getLsbD 3, length := if d.getLsbD 3 then a.noise.length else 0 } }

/-- The DMC's part of a 0x4015 write, before its reader runs (R536). -/
def enableDmc (d : Byte) (c : Dmc) : Dmc :=
  let c1 :=
    if d.getLsbD 4 == false then { c with remaining := 0 }
    else if c.remaining == 0 then restartSample c
    else c
  { c1 with irqFlag := false }

/-- A write of an APU channel register 0x4000–0x4013, `r` its offset (R510 to R534, R570). -/
def apuRegWrite (r : Nat) (d : Byte) (a : Apu) : Apu :=
  if r < 4 then { a with pulse1 := pulseWrite r d a.pulse1 }
  else if r < 8 then { a with pulse2 := pulseWrite (r - 4) d a.pulse2 }
  else if r < 12 then { a with tri := triangleWrite (r - 8) d a.tri }
  else if r < 16 then { a with noise := noiseWrite (r - 12) d a.noise }
  else { a with dmc := dmcWrite (r - 16) d a.dmc }

/-- The APU's part of the reset sequence: channels to their power-on values, the frame counter's mode and inhibit kept
(R71, R800). -/
def apuReset (a : Apu) : Apu :=
  { Apu.powerOn with frame := { a.frame with cycle := 0, irqFlag := false } }

/-- Bits 4..0 of a 0x4015 read (R535). -/
def lengthStatus (a : Apu) : BitVec 5 :=
  BitVec.ofBool (a.dmc.remaining != 0) ++ BitVec.ofBool (a.noise.length != 0) ++ BitVec.ofBool (a.tri.length != 0) ++
    BitVec.ofBool (a.pulse2.length != 0) ++ BitVec.ofBool (a.pulse1.length != 0)


end Sys2Proof.Machine
end

