-- ==== Sys2Proof/Machine/Mapper.lean ====
section
/-! DEFINITION. The baseline mapper: PRG and CHR slots, cartridge RAM, mirroring (52_cartridge_mapper.md), and the draw of an
undriven read. -/

namespace Sys2Proof.Machine

/-- `draw OPEN_BUS` (R114): the next free value; the count of draws goes up by one. -/
def drawOpenBus (s : State) : Byte × State := (Config.openBus s.draws, { s with draws := s.draws + 1 })

/-- A byte of PRG ROM seen at 0x8000–0xFFFF (R620). With no PRG bank every read is 0 (D34). -/
def prgByte (s : State) (a : Word) : Byte :=
  if s.cart.prgBanks == 0 then 0
  else
    let slot := if a.toNat < 0xC000 then s.mapper.prgSlot0 else s.mapper.prgSlot1
    cellsRead s.cart.prg (16384 * slot + a.toNat % 16384)

/-- `mapper.read(a)` for 0x4020–0xFFFF (R620, R622). -/
def mapperRead (a : Word) (s : State) : Byte × State :=
  if a.toNat < 0x6000 then drawOpenBus s
  else if a.toNat < 0x8000 then
    if s.params.prgRamPresent then (cellsRead s.mapper.prgRam (a.toNat - 0x6000), s) else drawOpenBus s
  else (prgByte s a, s)

/-- `mapper.write(a, v)` for 0x4020–0xFFFF: only PRG RAM takes it (R622, R113). -/
def mapperWrite (a : Word) (v : Byte) (s : State) : State :=
  if 0x6000 ≤ a.toNat ∧ a.toNat < 0x8000 ∧ s.params.prgRamPresent then
    { s with mapper := { s.mapper with prgRam := cellsWrite s.mapper.prgRam (a.toNat - 0x6000) v } }
  else s

/-- `mapper.clock(n)`: the baseline mapper has no counter (R624). -/
def mapperClock (_n : Nat) (s : State) : State := s

/-- The mapping set at load and applied again by `mapper.reset()` (R620, R621, R624). -/
def mapperSlots (c : Cart) (m : Mapper) : Mapper :=
  { m with prgSlot0 := 0, prgSlot1 := if 2 ≤ c.prgBanks then 1 else 0,
           chrSlot0 := 0, chrSlot1 := if 2 ≤ c.chrBanks then 1 else 0 }

/-- `mapper.irq`: always 0 for the baseline mapper (R45, R624). -/
def mapperIrq (_m : Mapper) : Bool := false

/-- `getMirroringOverride()`: none for the baseline mapper (R623). -/
def mirroringOverride (_m : Mapper) : Option Mirroring := none

/-- The effective mirroring (R139). -/
def effectiveMirroring (c : Cart) (m : Mapper) : Mirroring := (mirroringOverride m).getD c.mirroring

/-- `page(q)` for the logical nametable `q`: pages A, B, C, D are 0, 1, 2, 3 (R133). -/
def nametablePage : Mirroring → Nat → Nat
  | .horizontal, q => q / 2
  | .vertical, q => q % 2
  | .singleA, _ => 0
  | .singleB, _ => 1
  | .fourScreen, q => q

/-- A pattern byte, `a` in 0x0000–0x1FFF (R131, R621). -/
def patternRead (c : Cart) (m : Mapper) (a : Nat) : Byte :=
  if c.chrBanks == 0 then cellsRead m.chrRam a
  else cellsRead c.chr (4096 * (if a < 0x1000 then m.chrSlot0 else m.chrSlot1) + a % 4096)

/-- A pattern write: CHR RAM takes it, CHR ROM ignores it (R131). -/
def patternWrite (c : Cart) (m : Mapper) (a : Nat) (v : Byte) : Mapper :=
  if c.chrBanks == 0 then { m with chrRam := cellsWrite m.chrRam a v } else m

end Sys2Proof.Machine
end

