-- ==== Sys2Proof/Machine/PpuMem.lean ====
section
/-! DEFINITION. The 14-bit PPU address space (20_memory.md, section 4) and the v register's arithmetic (50_ppu.md). -/

namespace Sys2Proof.Machine

/-- `alias(p)` of a palette index 0..31 (R136). -/
def paletteAlias (p : Nat) : Nat := if p &&& 0x13 == 0x10 then p - 0x10 else p

/-- The cell of `nt_ram` an address in 0x2000–0x3EFF reaches (R132 to R134). -/
def nametableCell (mir : Mirroring) (a : Nat) : Nat := nametablePage mir (a / 0x400 % 4) * 0x400 + a % 0x400

/-- The 6-bit palette cell (R135, R136). -/
def paletteRead (p : Ppu) (idx : Nat) : BitVec 6 := cellsRead p.palette (paletteAlias idx)

/-- `PpuRead(a)` (R130 to R138); a palette cell is read as its 6 bits. -/
def ppuRead (c : Cart) (m : Mapper) (p : Ppu) (addr : BitVec 14) : Byte :=
  let a := addr.toNat
  if a < 0x2000 then patternRead c m a
  else if a < 0x3F00 then cellsRead p.ntRam (nametableCell (effectiveMirroring c m) a)
  else (paletteRead p (a % 32)).setWidth 8

/-- `PpuWrite(a, v)` (R130 to R137); a palette write stores `v & 0x3F`. -/
def ppuWrite (a : BitVec 14) (v : Byte) (s : State) : State :=
  let n := a.toNat
  if n < 0x2000 then { s with mapper := patternWrite s.cart s.mapper n v }
  else if n < 0x3F00 then
    { s with ppu := { s.ppu with
        ntRam := cellsWrite s.ppu.ntRam (nametableCell (effectiveMirroring s.cart s.mapper) n) v } }
  else { s with ppu := { s.ppu with palette := cellsWrite s.ppu.palette (paletteAlias (n % 32)) (v.setWidth 6) } }

/-- The low 14 bits of a 15-bit PPU address (R14, R130). -/
def ppuAddr (v : BitVec 15) : BitVec 14 := v.setWidth 14

/-- PPUCTRL.INC32 as the increment 1 or 32 (R401). -/
def vramInc (p : Ppu) : BitVec 15 := if p.ctrl.getLsbD 2 then 32 else 1

/-- PPUCTRL.NMI_ENABLE (R52). -/
def nmiEnable (p : Ppu) : Bool := p.ctrl.getLsbD 7

/-- PPUMASK.SHOW_BG (R53). -/
def showBg (p : Ppu) : Bool := p.mask.getLsbD 3

/-- PPUMASK.SHOW_SPR (R53). -/
def showSpr (p : Ppu) : Bool := p.mask.getLsbD 4

/-- `rendering_enabled` (R53, R401). -/
def renderingEnabled (p : Ppu) : Bool := showBg p || showSpr p

/-- `render_line` (R401). -/
def renderLine (p : Ppu) : Bool := decide (p.scanline ≤ 239) || p.scanline == 261

/-- `incX(v)` (R436). -/
def incX (v : BitVec 15) : BitVec 15 :=
  if v &&& 0x001F == 31 then (v &&& 0x7FE0) ^^^ 0x0400 else v + 1

/-- `incY(v)` (R437). -/
def incY (v : BitVec 15) : BitVec 15 :=
  if v &&& 0x7000 != 0x7000 then v + 0x1000
  else
    let v0 := v &&& 0x0FFF
    let cy := (v0 >>> 5) &&& 31
    if cy == 29 then (v0 ^^^ 0x0800) &&& 0x7C1F
    else if cy == 31 then v0 &&& 0x7C1F
    else (v0 &&& 0x7C1F) ||| ((cy + 1) <<< 5)

end Sys2Proof.Machine
end

