-- ==== Sys2Proof/Machine/PpuRegs.lean ====
section
/-! DEFINITION. The eight CPU-facing PPU registers (50_ppu.md, section 2). -/

namespace Sys2Proof.Machine

/-- `advance_v()` (R415, R420). -/
def advanceV (par : Params) (p : Ppu) : Ppu :=
  if par.ppudataRenderGlitch && renderingEnabled p && renderLine p then { p with v := incY (incX p.v) }
  else { p with v := p.v + vramInc p }

/-- PPUSTATUS read (R411): the three flags over an open bus; clears VBLANK and w. -/
def readPpuStatus (s : State) : Byte × State :=
  let d := drawOpenBus s
  let p := d.2.ppu
  ((BitVec.ofBool p.vblank ++ BitVec.ofBool p.spr0Hit ++ BitVec.ofBool p.sprOverflow ++ d.1.extractLsb' 0 5 : Byte),
    { d.2 with ppu := { p with vblank := false, w := false } })

/-- OAMDATA read (R413, R141): attribute bytes read with bits 4..2 cleared; OAMADDR does not move. -/
def oamDataByte (p : Ppu) : Byte :=
  let b := cellsRead p.oam p.oamAddr.toNat
  if p.oamAddr &&& 3 == 2 then b &&& 0xE3 else b

/-- PPUDATA read (R415): buffered below 0x3F00, direct from the palette above it. -/
def readPpuData (s : State) : Byte × State :=
  let a := ppuAddr s.ppu.v
  if a.toNat < 0x3F00 then
    (s.ppu.readBuf,
      { s with ppu := advanceV s.params { s.ppu with readBuf := ppuRead s.cart s.mapper s.ppu a } })
  else
    let d := drawOpenBus s
    let c := paletteRead s.ppu (a.toNat % 32)
    ((d.1.extractLsb' 6 2 ++ c : Byte),
      { d.2 with ppu := advanceV s.params { s.ppu with readBuf := ppuRead s.cart s.mapper s.ppu (a - 0x1000) } })

/-- A CPU read of PPU register `r` (R410, R419). -/
def ppuRegRead (r : Nat) (s : State) : Byte × State :=
  if r == 2 then readPpuStatus s
  else if r == 4 then (oamDataByte s.ppu, s)
  else if r == 7 then readPpuData s
  else drawOpenBus s

/-- PPUCTRL write (R416), with the late NMI of R452. -/
def writePpuCtrl (d : Byte) (s : State) : State :=
  { s with
    ppu := { s.ppu with ctrl := d, t := (s.ppu.t &&& 0x73FF) ||| ((d &&& 0x03).setWidth 15 <<< 10) },
    nmiPending := s.nmiPending ||
      (!nmiEnable s.ppu && d.getLsbD 7 && s.ppu.vblank && s.params.nmiOnLateEnable) }

/-- PPUSCROLL write (R418). -/
def writePpuScroll (d : Byte) (p : Ppu) : Ppu :=
  if p.w == false then
    { p with t := (p.t &&& 0x7FE0) ||| (d >>> 3).setWidth 15, x := d.setWidth 3, w := true }
  else
    { p with t := (p.t &&& 0x0C1F) ||| ((d &&& 0x07).setWidth 15 <<< 12) ||| ((d >>> 3).setWidth 15 <<< 5), w := false }

/-- PPUADDR write (R414). -/
def writePpuAddr (d : Byte) (p : Ppu) : Ppu :=
  if p.w == false then
    { p with t := (p.t &&& 0x00FF) ||| ((d &&& 0x3F).setWidth 15 <<< 8), w := true }
  else
    let t := (p.t &&& 0x7F00) ||| d.setWidth 15
    { p with t := t, v := t, w := false }

/-- OAMDATA write (R413). -/
def writeOamData (d : Byte) (p : Ppu) : Ppu :=
  { p with oam := cellsWrite p.oam p.oamAddr.toNat d, oamAddr := p.oamAddr + 1 }

/-- PPUDATA write (R415). -/
def writePpuData (d : Byte) (s : State) : State :=
  let s1 := ppuWrite (ppuAddr s.ppu.v) d s
  { s1 with ppu := advanceV s.params s1.ppu }

/-- A CPU write of PPU register `r` (R410, R417, R419). -/
def ppuRegWrite (r : Nat) (d : Byte) (s : State) : State :=
  if r == 0 then writePpuCtrl d s
  else if r == 1 then { s with ppu := { s.ppu with mask := d } }
  else if r == 2 then s
  else if r == 3 then { s with ppu := { s.ppu with oamAddr := d } }
  else if r == 4 then { s with ppu := writeOamData d s.ppu }
  else if r == 5 then { s with ppu := writePpuScroll d s.ppu }
  else if r == 6 then { s with ppu := writePpuAddr d s.ppu }
  else writePpuData d s

/-- The PPU's part of the reset sequence (R65, R800). -/
def ppuReset (p : Ppu) : Ppu :=
  { p with ctrl := 0, mask := 0, t := 0, x := 0, w := false, readBuf := 0, oddFrame := false }

end Sys2Proof.Machine
end

