-- ==== Sys2Proof/Machine/Bus.lean ====
section
/-! DEFINITION. The CPU bus: dispatch by address with every side effect (R110 to R114 of 20_memory.md), the controller ports,
the APU status register, the DMC memory reader and OAM DMA. -/

namespace Sys2Proof.Machine

/-- `irq_line` (R45, R560, R711): computed from the frame flag, the DMC flag and the mapper's term. -/
def irqLine (s : State) : Bool := s.apu.frame.irqFlag || s.apu.dmc.irqFlag || mapperIrq s.mapper

/-- APU status read, 0x4015 (R535): acknowledges the frame IRQ only. -/
def readApuStatus (s : State) : Byte × State :=
  let d := drawOpenBus s
  let a := d.2.apu
  ((BitVec.ofBool a.dmc.irqFlag ++ BitVec.ofBool a.frame.irqFlag ++ d.1.extractLsb' 5 1 ++ lengthStatus a : Byte),
    { d.2 with apu := { a with frame := { a.frame with irqFlag := false } } })

/-- The shift register of pad `pad` as a port read sees it: latched anew while strobe is 1 (R662). -/
def padReport (pad : Nat) (s : State) : Byte :=
  if s.ports.strobe then Config.controllerInput pad s.cpuCycles
  else if pad == 0 then s.ports.shift0 else s.ports.shift1

/-- The shift register after a port read (R662). -/
def padShifted (pad : Nat) (s : State) : Byte :=
  if s.ports.strobe then padReport pad s else (padReport pad s >>> 1) ||| 0x80

/-- Controller port read, 0x4016 for pad 0 and 0x4017 for pad 1 (R662). -/
def readPad (pad : Nat) (s : State) : Byte × State :=
  let d := drawOpenBus s
  ((d.1.extractLsb' 5 3 ++ (0 : BitVec 4) ++ BitVec.ofBool ((padReport pad s).getLsbD 0) : Byte),
    { d.2 with ports :=
        if pad == 0 then { s.ports with shift0 := padShifted 0 s } else { s.ports with shift1 := padShifted 1 s } })

/-- Strobe write, 0x4016 (R661). -/
def writeStrobe (d : Byte) (s : State) : State :=
  let now := d.getLsbD 0
  if now || s.ports.strobe then
    { s with ports := { strobe := now, shift0 := Config.controllerInput 0 s.cpuCycles,
                        shift1 := Config.controllerInput 1 s.cpuCycles } }
  else { s with ports := { s.ports with strobe := now } }

/-- `MemRead(addr, 1)` (R16, R110). -/
def busRead (a : Word) (s : State) : Byte × State :=
  if a.toNat < 0x2000 then (cellsRead s.ram (a.toNat % 0x800), s)
  else if a.toNat < 0x4000 then ppuRegRead (a.toNat % 8) s
  else if a == 0x4015 then readApuStatus s
  else if a == 0x4016 then readPad 0 s
  else if a == 0x4017 then readPad 1 s
  else if a.toNat < 0x4020 then drawOpenBus s
  else mapperRead a s

/-- The DMC memory reader (R557): fetches when it wants a byte, and asks for a stall. -/
def dmcReader (s : State) : State :=
  if dmcWants s.apu.dmc then
    let r := busRead s.apu.dmc.curAddr s
    { r.2 with apu := { r.2.apu with dmc := dmcFetched r.1 r.2.apu.dmc },
               stallPending := r.2.stallPending + s.params.dmcStallCycles.val }
  else s

/-- Channel enable write, 0x4015 (R536): the reader then fills an empty buffer (R557). -/
def writeApuEnable (d : Byte) (s : State) : State :=
  let a := enableChannels d s.apu
  dmcReader { s with apu := { a with dmc := enableDmc d a.dmc } }

/-- The copy loop of OAM DMA: `n` bytes left, the next one at offset `i` (R670). -/
def oamCopy (page : Byte) : Nat → Nat → State → State
  | 0, _, s => s
  | n + 1, i, s =>
    let r := busRead (mkWord page (BitVec.ofNat 8 i)) s
    oamCopy page n (i + 1)
      { r.2 with ppu := { r.2.ppu with
          oam := cellsWrite r.2.ppu.oam (r.2.ppu.oamAddr + BitVec.ofNat 8 i).toNat r.1 } }

/-- OAM DMA, a write of 0x4014 (R670): 514 cycles when `cpu_cycles` plus the writing instruction's cost is odd. -/
def oamDma (page : Byte) (s : State) : State :=
  let s1 := oamCopy page 256 0 s
  { s1 with dmaCycles := if (s1.cpuCycles + s1.cost) % 2 == 1 then 514 else 513 }

/-- `MemWrite(addr, 1, v)` (R16, R110, R113). -/
def busWrite (a : Word) (v : Byte) (s : State) : State :=
  if a.toNat < 0x2000 then { s with ram := cellsWrite s.ram (a.toNat % 0x800) v }
  else if a.toNat < 0x4000 then ppuRegWrite (a.toNat % 8) v s
  else if a.toNat < 0x4014 then { s with apu := apuRegWrite (a.toNat - 0x4000) v s.apu }
  else if a == 0x4014 then oamDma v s
  else if a == 0x4015 then writeApuEnable v s
  else if a == 0x4016 then writeStrobe v s
  else if a == 0x4017 then { s with apu := writeFrameCounter v s.apu }
  else if a.toNat < 0x4020 then s
  else mapperWrite a v s

/-- The stored byte behind a CPU address, read without any side effect: RAM, PRG RAM or PRG ROM; none where the address
reaches a device register or no device at all. -/
def peek (s : State) (a : Word) : Option Byte :=
  if a.toNat < 0x2000 then some (cellsRead s.ram (a.toNat % 0x800))
  else if a.toNat < 0x6000 then none
  else if a.toNat < 0x8000 then
    if s.params.prgRamPresent then some (cellsRead s.mapper.prgRam (a.toNat - 0x6000)) else none
  else some (prgByte s a)

/-- Do a write to `a` and a read of `b` reach the same stored byte that a write can change: the same RAM cell through any
mirror, or the same PRG RAM byte (R50, R110, R622)? -/
def sameStore (a b : Word) : Bool :=
  (decide (a.toNat < 0x2000) && decide (b.toNat < 0x2000) && a.toNat % 0x800 == b.toNat % 0x800) ||
    (decide (0x6000 ≤ a.toNat) && decide (a.toNat < 0x8000) && a == b)

end Sys2Proof.Machine
end

