-- ==== Sys2Proof/Machine/Ops.lean ====
section
/-! DEFINITION. The named operations every meaning is built from: register and flag writes, 16-bit reads, the stack, taking an
exception and returning from one (R14 to R19 of 00_scope.md, R36 of 10_state.md, R705 and R715 of 60_exceptions.md). -/

namespace Sys2Proof.Machine

/-- `A <- v`. -/
def State.setA (s : State) (v : Byte) : State := { s with cpu := { s.cpu with a := v } }

/-- `X <- v`. -/
def State.setX (s : State) (v : Byte) : State := { s with cpu := { s.cpu with x := v } }

/-- `Y <- v`. -/
def State.setY (s : State) (v : Byte) : State := { s with cpu := { s.cpu with y := v } }

/-- `S <- v`. -/
def State.setS (s : State) (v : Byte) : State := { s with cpu := { s.cpu with s := v } }

/-- `PC <- v`. -/
def State.setPc (s : State) (v : Word) : State := { s with cpu := { s.cpu with pc := v } }

/-- All six flags at once. -/
def State.setP (s : State) (p : Flags) : State := { s with cpu := { s.cpu with p := p } }

/-- The cost of the running instruction (R651; log 8). -/
def State.setCost (s : State) (c : Nat) : State := { s with cost := c }

/-- `NZ(v)` on the flags (R18). -/
def Flags.nz (p : Flags) (v : Byte) : Flags := { p with n := v.getLsbD 7, z := v == 0 }

/-- `NZ(v)` on the state (R18). -/
def State.setNZ (s : State) (v : Byte) : State := s.setP (Flags.nz s.cpu.p v)

/-- `Pimage(b)` (R36): N V 1 b D I Z C. -/
def statusImage (p : Flags) (b : Bool) : Byte :=
  BitVec.ofBool p.n ++ BitVec.ofBool p.v ++ BitVec.ofBool true ++ BitVec.ofBool b ++ BitVec.ofBool p.d ++
    BitVec.ofBool p.i ++ BitVec.ofBool p.z ++ BitVec.ofBool p.c

/-- `SetP(v)` (R36): bits 5 and 4 are discarded. -/
def statusFlags (v : Byte) : Flags :=
  { c := v.getLsbD 0, z := v.getLsbD 1, i := v.getLsbD 2, d := v.getLsbD 3, v := v.getLsbD 6, n := v.getLsbD 7 }

/-- `Read16(addr)`, low byte first, the address wrapping modulo 65536 (R16). -/
def read16 (a : Word) (s : State) : Word × State :=
  let lo := busRead a s
  let hi := busRead (a + 1) lo.2
  (mkWord hi.1 lo.1, hi.2)

/-- `Read16zp(p)`, the pointer wrapping inside page 0 (R16). -/
def read16zp (p : Byte) (s : State) : Word × State :=
  let lo := busRead (zext16 p) s
  let hi := busRead (zext16 (p + 1)) lo.2
  (mkWord hi.1 lo.1, hi.2)

/-- The stack cell S names: 0x0100 | S (R33). -/
def stackAddr (sp : Byte) : Word := mkWord 0x01 sp

/-- `Push(v)` (R17). -/
def push (v : Byte) (s : State) : State :=
  let s1 := busWrite (stackAddr s.cpu.s) v s
  s1.setS (s1.cpu.s - 1)

/-- `Pull()` (R17). -/
def pull (s : State) : Byte × State :=
  let s1 := s.setS (s.cpu.s + 1)
  busRead (stackAddr s1.cpu.s) s1

/-- The two pushes of a 16-bit address, high byte first (R311, R313, R715). -/
def pushWord (w : Word) (s : State) : State := push (loByte w) (push (hiByte w) s)

/-- The two pulls of a 16-bit address, low byte first (R312, R314). -/
def pullWord (s : State) : Word × State :=
  let lo := pull s
  let hi := pull lo.2
  (mkWord hi.1 lo.1, hi.2)

/-- The NMI vector (R111). -/
def nmiVector : Word := 0xFFFA

/-- The reset vector (R111). -/
def resetVector : Word := 0xFFFC

/-- The vector IRQ and BRK share (R111). -/
def irqVector : Word := 0xFFFE

/-- The 16-bit word PRG ROM shows at a vector (R111, R620). -/
def vectorWord (s : State) (v : Word) : Word := mkWord (prgByte s (v + 1)) (prgByte s v)

/-- TAKING AN EXCEPTION, the sequence NMI, IRQ and BRK share (R313, R715): pushes the return address and `Pimage(b)`, sets I and
loads PC from the vector, low byte first. -/
def takeException (ret : Word) (b : Bool) (vector : Word) (s : State) : State :=
  let s1 := pushWord ret s
  let s2 := push (statusImage s1.cpu.p b) s1
  let s3 := s2.setP { s2.cpu.p with i := true }
  let v := read16 vector s3
  v.2.setPc v.1

/-- The two interrupts (R710, R711). -/
inductive Interrupt where
  | nmi
  | irq
deriving DecidableEq, Repr

/-- The vector of an interrupt (R701). -/
def interruptVector : Interrupt → Word
  | .nmi => nmiVector
  | .irq => irqVector

/-- `EnterInterrupt(kind)` (R715): B = 0; the NMI entry clears its latch. -/
def enterInterrupt (k : Interrupt) (s : State) : State :=
  takeException s.cpu.pc false (interruptVector k)
    (match k with
     | .nmi => { s with nmiPending := false }
     | .irq => s)

/-- RETURNING FROM AN EXCEPTION (R314, R716): P, then PC, are pulled; no + 1. -/
def returnFromException (s : State) : State :=
  let p := pull s
  let w := pullWord (p.2.setP (statusFlags p.1))
  w.2.setPc w.1

/-- `raise UnimplementedOpcode(PC0, op)` (R705): the fault is recorded and nothing else changes (log 6). -/
def raiseUnimplemented (op : Byte) (s : State) : State := { s with fault := some { pc := s.cpu.pc, opcode := op } }

/-- The base cost `CYCLE_TABLE[op]` (R185, R651). -/
def baseCost (par : Params) (op : Byte) : Nat := par.cycleTable.getD op.toNat 0

/-- The start of an instruction: its base cost is charged (R651). -/
def State.charge (s : State) (op : Byte) : State := s.setCost (baseCost s.params op)

/-- `n` more cycles (R188, R300). -/
def State.addCost (s : State) (n : Nat) : State := s.setCost (s.cost + n)

/-- `PC <- PCn` for an instruction of `len` bytes (R20, R34). -/
def State.skip (s : State) (len : Nat) : State := s.setPc (s.cpu.pc + BitVec.ofNat 16 len)

end Sys2Proof.Machine
end

