-- ==== Sys2Proof/Machine/Flags.lean ====
section
/-! DEFINITION. Every flag computation of the instruction set, each a function of the flags and the operands alone
(42_arith_logic.md, 43_shift_rotate.md, 46_unofficial.md). A pair is (8-bit result, flags after). -/

namespace Sys2Proof.Machine

/-- Add with carry (R241): the 9-bit sum, C its bit 8, V the signed overflow. D has no effect (R240). -/
def adcFlags (p : Flags) (a m : Byte) : Byte × Flags :=
  let sum := a.toNat + m.toNat + bitNat p.c
  let r : Byte := BitVec.ofNat 8 sum
  (r, Flags.nz { p with c := decide (256 ≤ sum), v := ((a ^^^ r) &&& (m ^^^ r)).getLsbD 7 } r)

/-- Subtract with borrow (R242): the add of the complemented operand. -/
def sbcFlags (p : Flags) (a m : Byte) : Byte × Flags := adcFlags p a (m ^^^ 0xFF)

/-- Compare (R246 to R248): C is the unsigned comparison, Z equality, N bit 7 of the wrapped difference. -/
def cmpFlags (p : Flags) (r m : Byte) : Flags :=
  { p with c := decide (m.toNat ≤ r.toNat), z := r == m, n := (r - m).getLsbD 7 }

/-- Bit test (R249): N and V from the memory byte, Z from A & M. -/
def bitFlags (p : Flags) (a m : Byte) : Flags :=
  { p with z := a &&& m == 0, n := m.getLsbD 7, v := m.getLsbD 6 }

/-- Shift left (R290). -/
def aslFlags (p : Flags) (m : Byte) : Byte × Flags :=
  let r := m <<< 1
  (r, Flags.nz { p with c := m.getLsbD 7 } r)

/-- Shift right (R291). -/
def lsrFlags (p : Flags) (m : Byte) : Byte × Flags :=
  let r := m >>> 1
  (r, Flags.nz { p with c := m.getLsbD 0 } r)

/-- Rotate left through carry (R292). -/
def rolFlags (p : Flags) (m : Byte) : Byte × Flags :=
  let r := (m <<< 1) ||| bit8 p.c
  (r, Flags.nz { p with c := m.getLsbD 7 } r)

/-- Rotate right through carry (R293). -/
def rorFlags (p : Flags) (m : Byte) : Byte × Flags :=
  let r := (bit8 p.c <<< 7) ||| (m >>> 1)
  (r, Flags.nz { p with c := m.getLsbD 0 } r)

/-- Increment (R250). -/
def incFlags (p : Flags) (m : Byte) : Byte × Flags := (m + 1, Flags.nz p (m + 1))

/-- Decrement (R251). -/
def decFlags (p : Flags) (m : Byte) : Byte × Flags := (m - 1, Flags.nz p (m - 1))

/-- AND immediate with C from bit 7 (R372). -/
def ancFlags (p : Flags) (a m : Byte) : Byte × Flags :=
  let r := a &&& m
  (r, Flags.nz { p with c := r.getLsbD 7 } r)

/-- AND immediate, then shift right (R373). -/
def alrFlags (p : Flags) (a m : Byte) : Byte × Flags := lsrFlags p (a &&& m)

/-- AND immediate, then rotate right, C and V from bits 6 and 5 of the result (R374). -/
def arrFlags (p : Flags) (a m : Byte) : Byte × Flags :=
  let r := (bit8 p.c <<< 7) ||| ((a &&& m) >>> 1)
  (r, Flags.nz { p with c := r.getLsbD 6, v := r.getLsbD 6 ^^ r.getLsbD 5 } r)

/-- (A AND X) minus the immediate, C as a comparison (R375). -/
def axsFlags (p : Flags) (a x m : Byte) : Byte × Flags :=
  let t := a &&& x
  (t - m, Flags.nz { p with c := decide (m.toNat ≤ t.toNat) } (t - m))

end Sys2Proof.Machine
end

