-- ==== Sys2Proof/Machine/Operands.lean ====
section
/-! DEFINITION. The operand forms (30_encoding.md, section 2) and the four shapes of an instruction over them: read an
operand, store, read-modify-write, branch. -/

namespace Sys2Proof.Machine

/-- An operand form with its operand bytes (R172 to R183). -/
inductive Operand where
  /-- immediate (R176) -/
  | imm (b : Byte)
  /-- zero page (R177) -/
  | zp (b : Byte)
  /-- zero page,X (R178) -/
  | zpx (b : Byte)
  /-- zero page,Y (R179) -/
  | zpy (b : Byte)
  /-- absolute (R180) -/
  | abs (a : Word)
  /-- absolute,X (R183) -/
  | absx (a : Word)
  /-- absolute,Y (R183) -/
  | absy (a : Word)
  /-- (zero page,X) (R181) -/
  | indx (b : Byte)
  /-- (zero page),Y (R182) -/
  | indy (b : Byte)
deriving DecidableEq, Repr

/-- The length of an instruction with this operand (R172). -/
def operandLength : Operand → Nat
  | .imm _ | .zp _ | .zpx _ | .zpy _ | .indx _ | .indy _ => 2
  | .abs _ | .absx _ | .absy _ => 3

/-- An effective address, whether a page was crossed, and the state after the pointer reads. -/
structure Resolved where
  ea : Word
  crossed : Bool
  st : State

/-- The effective address (R177 to R183). An immediate makes no access; its place is the byte after the opcode (R176). -/
def resolve (o : Operand) (s : State) : Resolved :=
  match o with
  | .imm _ => { ea := s.cpu.pc + 1, crossed := false, st := s }
  | .zp b => { ea := zext16 b, crossed := false, st := s }
  | .zpx b => { ea := zext16 (b + s.cpu.x), crossed := false, st := s }
  | .zpy b => { ea := zext16 (b + s.cpu.y), crossed := false, st := s }
  | .abs a => { ea := a, crossed := false, st := s }
  | .absx a => { ea := a + zext16 s.cpu.x, crossed := pageDiffers a (a + zext16 s.cpu.x), st := s }
  | .absy a => { ea := a + zext16 s.cpu.y, crossed := pageDiffers a (a + zext16 s.cpu.y), st := s }
  | .indx b =>
    let r := read16zp (b + s.cpu.x) s
    { ea := r.1, crossed := false, st := r.2 }
  | .indy b =>
    let r := read16zp b s
    { ea := r.1 + zext16 s.cpu.y, crossed := pageDiffers r.1 (r.1 + zext16 s.cpu.y), st := r.2 }

/-- The penalty of R188: one more cycle for a crossed page. -/
def crossPenalty (r : Resolved) : State := if r.crossed then r.st.addCost 1 else r.st

/-- The operand value `M` of a reading instruction (R20), with the penalty of R188. -/
def readOperand (o : Operand) (s : State) : Byte × State :=
  match o with
  | .imm b => (b, s)
  | o =>
    let r := resolve o s
    busRead r.ea (crossPenalty r)

/-- A reading instruction: charge, read the operand, apply the effect, go to the next instruction. -/
def readInstr (op : Byte) (o : Operand) (effect : Byte → State → State) (s : State) : State :=
  let r := readOperand o (s.charge op)
  (effect r.1 r.2).skip (operandLength o)

/-- A storing instruction: the value is a function of the registers; no read of EA and no penalty (R188, R213). -/
def storeInstr (op : Byte) (o : Operand) (value : Cpu → Byte) (s : State) : State :=
  let r := resolve o (s.charge op)
  (busWrite r.ea (value r.st.cpu) r.st).skip (operandLength o)

/-- A read-modify-write instruction: one read of EA, one write of the result, then the combination with A of the unofficial
forms (R153, R363). No penalty (R188). -/
def rmwInstr (op : Byte) (o : Operand) (alu : Flags → Byte → Byte × Flags) (combine : Byte → State → State) (s : State) :
    State :=
  let r := resolve o (s.charge op)
  let m := busRead r.ea r.st
  let res := alu m.2.cpu.p m.1
  let s1 := busWrite r.ea res.1 (m.2.setP res.2)
  (combine res.1 s1).skip (operandLength o)

/-- The combination of the official read-modify-write instructions: none. -/
def noCombine (_r : Byte) (s : State) : State := s

/-- A shift or rotate of A (R175). -/
def accInstr (op : Byte) (alu : Flags → Byte → Byte × Flags) (s : State) : State :=
  let s1 := s.charge op
  let res := alu s1.cpu.p s1.cpu.a
  ((s1.setA res.1).setP res.2).skip 1

/-- An implied instruction of one byte (R174). -/
def impliedInstr (op : Byte) (effect : State → State) (s : State) : State := (effect (s.charge op)).skip 1

/-- A conditional branch (R187, R300). -/
def branchInstr (op : Byte) (offset : Byte) (cond : Bool) (s : State) : State :=
  let s1 := (s.charge op).skip 2
  let target := s1.cpu.pc + sext16 offset
  if cond then (s1.addCost (1 + bitNat (pageDiffers s1.cpu.pc target))).setPc target else s1

/-- The pointer of JMP (indirect), whose high byte comes from the same page (R184). -/
def readIndirect (ptr : Word) (s : State) : Word × State :=
  let lo := busRead ptr s
  let hi := busRead (mkWord (hiByte ptr) (loByte ptr + 1)) lo.2
  (mkWord hi.1 lo.1, hi.2)

/-- The gate of the 85 stable unofficial opcodes (R360). -/
def gated (op : Byte) (body : State → State) (s : State) : State :=
  if s.params.unofficialEnabled then body s else raiseUnimplemented op s

end Sys2Proof.Machine
end

