-- ==== Sys2Proof/Machine/Arith.lean ====
section
/-! DEFINITION. Add and subtract (R241, R242 of 42_arith_logic.md; the unofficial SBC 0xEB, R376 of 46_unofficial.md). One definition for each constructor. -/

namespace Sys2Proof.Machine

/-- ADC's effect (R241). -/
def addToA (m : Byte) (s : State) : State :=
  let r := adcFlags s.cpu.p s.cpu.a m
  (s.setA r.1).setP r.2

/-- SBC's effect (R242). -/
def subFromA (m : Byte) (s : State) : State :=
  let r := sbcFlags s.cpu.p s.cpu.a m
  (s.setA r.1).setP r.2

/-- 0x61 ADC (zp,X) (R241) -/
def execAdcIndx (b : Byte) (s : State) : Result :=
  .next (readInstr 0x61 (.indx b) addToA s)

/-- 0x65 ADC zp (R241) -/
def execAdcZp (b : Byte) (s : State) : Result :=
  .next (readInstr 0x65 (.zp b) addToA s)

/-- 0x69 ADC #b (R241) -/
def execAdcImm (b : Byte) (s : State) : Result :=
  .next (readInstr 0x69 (.imm b) addToA s)

/-- 0x6D ADC abs (R241) -/
def execAdcAbs (a : Word) (s : State) : Result :=
  .next (readInstr 0x6D (.abs a) addToA s)

/-- 0x71 ADC (zp),Y (R241) -/
def execAdcIndy (b : Byte) (s : State) : Result :=
  .next (readInstr 0x71 (.indy b) addToA s)

/-- 0x75 ADC zp,X (R241) -/
def execAdcZpx (b : Byte) (s : State) : Result :=
  .next (readInstr 0x75 (.zpx b) addToA s)

/-- 0x79 ADC abs,Y (R241) -/
def execAdcAbsy (a : Word) (s : State) : Result :=
  .next (readInstr 0x79 (.absy a) addToA s)

/-- 0x7D ADC abs,X (R241) -/
def execAdcAbsx (a : Word) (s : State) : Result :=
  .next (readInstr 0x7D (.absx a) addToA s)

/-- 0xE1 SBC (zp,X) (R242) -/
def execSbcIndx (b : Byte) (s : State) : Result :=
  .next (readInstr 0xE1 (.indx b) subFromA s)

/-- 0xE5 SBC zp (R242) -/
def execSbcZp (b : Byte) (s : State) : Result :=
  .next (readInstr 0xE5 (.zp b) subFromA s)

/-- 0xE9 SBC #b (R242) -/
def execSbcImm (b : Byte) (s : State) : Result :=
  .next (readInstr 0xE9 (.imm b) subFromA s)

/-- 0xEB SBC #b (R376) -/
def execSbcImmEB (b : Byte) (s : State) : Result :=
  .next (gated 0xEB (fun s => readInstr 0xEB (.imm b) subFromA s) s)

/-- 0xED SBC abs (R242) -/
def execSbcAbs (a : Word) (s : State) : Result :=
  .next (readInstr 0xED (.abs a) subFromA s)

/-- 0xF1 SBC (zp),Y (R242) -/
def execSbcIndy (b : Byte) (s : State) : Result :=
  .next (readInstr 0xF1 (.indy b) subFromA s)

/-- 0xF5 SBC zp,X (R242) -/
def execSbcZpx (b : Byte) (s : State) : Result :=
  .next (readInstr 0xF5 (.zpx b) subFromA s)

/-- 0xF9 SBC abs,Y (R242) -/
def execSbcAbsy (a : Word) (s : State) : Result :=
  .next (readInstr 0xF9 (.absy a) subFromA s)

/-- 0xFD SBC abs,X (R242) -/
def execSbcAbsx (a : Word) (s : State) : Result :=
  .next (readInstr 0xFD (.absx a) subFromA s)

end Sys2Proof.Machine
end

