-- ==== Sys2Proof/Machine/Branch.lean ====
section
/-! DEFINITION. Conditional branches (R300 to R308 of 44_control_transfer.md). One definition for each constructor. -/

namespace Sys2Proof.Machine

/-- 0x90 BCC offset (R301) -/
def execBcc (b : Byte) (s : State) : Result :=
  .next (branchInstr 0x90 b (!s.cpu.p.c) s)

/-- 0xB0 BCS offset (R302) -/
def execBcs (b : Byte) (s : State) : Result :=
  .next (branchInstr 0xB0 b (s.cpu.p.c) s)

/-- 0xF0 BEQ offset (R303) -/
def execBeq (b : Byte) (s : State) : Result :=
  .next (branchInstr 0xF0 b (s.cpu.p.z) s)

/-- 0xD0 BNE offset (R305) -/
def execBne (b : Byte) (s : State) : Result :=
  .next (branchInstr 0xD0 b (!s.cpu.p.z) s)

/-- 0x30 BMI offset (R304) -/
def execBmi (b : Byte) (s : State) : Result :=
  .next (branchInstr 0x30 b (s.cpu.p.n) s)

/-- 0x10 BPL offset (R306) -/
def execBpl (b : Byte) (s : State) : Result :=
  .next (branchInstr 0x10 b (!s.cpu.p.n) s)

/-- 0x50 BVC offset (R307) -/
def execBvc (b : Byte) (s : State) : Result :=
  .next (branchInstr 0x50 b (!s.cpu.p.v) s)

/-- 0x70 BVS offset (R308) -/
def execBvs (b : Byte) (s : State) : Result :=
  .next (branchInstr 0x70 b (s.cpu.p.v) s)

end Sys2Proof.Machine
end

