-- ==== Sys2Proof/Machine/Compare.lean ====
section
/-! DEFINITION. Compare and bit test (R246 to R249 of 42_arith_logic.md). One definition for each constructor. -/

namespace Sys2Proof.Machine

/-- CMP's effect (R246). -/
def compareA (m : Byte) (s : State) : State := s.setP (cmpFlags s.cpu.p s.cpu.a m)

/-- CPX's effect (R247). -/
def compareX (m : Byte) (s : State) : State := s.setP (cmpFlags s.cpu.p s.cpu.x m)

/-- CPY's effect (R248). -/
def compareY (m : Byte) (s : State) : State := s.setP (cmpFlags s.cpu.p s.cpu.y m)

/-- BIT's effect (R249). -/
def bitTest (m : Byte) (s : State) : State := s.setP (bitFlags s.cpu.p s.cpu.a m)

/-- 0xC1 CMP (zp,X) (R246) -/
def execCmpIndx (b : Byte) (s : State) : Result :=
  .next (readInstr 0xC1 (.indx b) compareA s)

/-- 0xC5 CMP zp (R246) -/
def execCmpZp (b : Byte) (s : State) : Result :=
  .next (readInstr 0xC5 (.zp b) compareA s)

/-- 0xC9 CMP #b (R246) -/
def execCmpImm (b : Byte) (s : State) : Result :=
  .next (readInstr 0xC9 (.imm b) compareA s)

/-- 0xCD CMP abs (R246) -/
def execCmpAbs (a : Word) (s : State) : Result :=
  .next (readInstr 0xCD (.abs a) compareA s)

/-- 0xD1 CMP (zp),Y (R246) -/
def execCmpIndy (b : Byte) (s : State) : Result :=
  .next (readInstr 0xD1 (.indy b) compareA s)

/-- 0xD5 CMP zp,X (R246) -/
def execCmpZpx (b : Byte) (s : State) : Result :=
  .next (readInstr 0xD5 (.zpx b) compareA s)

/-- 0xD9 CMP abs,Y (R246) -/
def execCmpAbsy (a : Word) (s : State) : Result :=
  .next (readInstr 0xD9 (.absy a) compareA s)

/-- 0xDD CMP abs,X (R246) -/
def execCmpAbsx (a : Word) (s : State) : Result :=
  .next (readInstr 0xDD (.absx a) compareA s)

/-- 0xE0 CPX #b (R247) -/
def execCpxImm (b : Byte) (s : State) : Result :=
  .next (readInstr 0xE0 (.imm b) compareX s)

/-- 0xE4 CPX zp (R247) -/
def execCpxZp (b : Byte) (s : State) : Result :=
  .next (readInstr 0xE4 (.zp b) compareX s)

/-- 0xEC CPX abs (R247) -/
def execCpxAbs (a : Word) (s : State) : Result :=
  .next (readInstr 0xEC (.abs a) compareX s)

/-- 0xC0 CPY #b (R248) -/
def execCpyImm (b : Byte) (s : State) : Result :=
  .next (readInstr 0xC0 (.imm b) compareY s)

/-- 0xC4 CPY zp (R248) -/
def execCpyZp (b : Byte) (s : State) : Result :=
  .next (readInstr 0xC4 (.zp b) compareY s)

/-- 0xCC CPY abs (R248) -/
def execCpyAbs (a : Word) (s : State) : Result :=
  .next (readInstr 0xCC (.abs a) compareY s)

/-- 0x24 BIT zp (R249) -/
def execBitZp (b : Byte) (s : State) : Result :=
  .next (readInstr 0x24 (.zp b) bitTest s)

/-- 0x2C BIT abs (R249) -/
def execBitAbs (a : Word) (s : State) : Result :=
  .next (readInstr 0x2C (.abs a) bitTest s)

end Sys2Proof.Machine
end

