-- ==== Sys2Proof/Machine/Faulting.lean ====
section
/-! DEFINITION. The 12 JAM and 8 unstable opcodes: each raises UnimplementedOpcode (R380, R381 of 46_unofficial.md). The operand bytes of an unstable opcode play no part (R189; log 9). One definition for each constructor. -/

namespace Sys2Proof.Machine

/-- 0x02 JAM (R380) -/
def execJam02 (s : State) : Result :=
  .next (raiseUnimplemented 0x02 s)

/-- 0x12 JAM (R380) -/
def execJam12 (s : State) : Result :=
  .next (raiseUnimplemented 0x12 s)

/-- 0x22 JAM (R380) -/
def execJam22 (s : State) : Result :=
  .next (raiseUnimplemented 0x22 s)

/-- 0x32 JAM (R380) -/
def execJam32 (s : State) : Result :=
  .next (raiseUnimplemented 0x32 s)

/-- 0x42 JAM (R380) -/
def execJam42 (s : State) : Result :=
  .next (raiseUnimplemented 0x42 s)

/-- 0x52 JAM (R380) -/
def execJam52 (s : State) : Result :=
  .next (raiseUnimplemented 0x52 s)

/-- 0x62 JAM (R380) -/
def execJam62 (s : State) : Result :=
  .next (raiseUnimplemented 0x62 s)

/-- 0x72 JAM (R380) -/
def execJam72 (s : State) : Result :=
  .next (raiseUnimplemented 0x72 s)

/-- 0x92 JAM (R380) -/
def execJam92 (s : State) : Result :=
  .next (raiseUnimplemented 0x92 s)

/-- 0xB2 JAM (R380) -/
def execJamB2 (s : State) : Result :=
  .next (raiseUnimplemented 0xB2 s)

/-- 0xD2 JAM (R380) -/
def execJamD2 (s : State) : Result :=
  .next (raiseUnimplemented 0xD2 s)

/-- 0xF2 JAM (R380) -/
def execJamF2 (s : State) : Result :=
  .next (raiseUnimplemented 0xF2 s)

/-- 0x8B ANE #b (R381) -/
def execAneImm (_b : Byte) (s : State) : Result :=
  .next (raiseUnimplemented 0x8B s)

/-- 0x93 SHA (zp),Y (R381) -/
def execShaIndy (_b : Byte) (s : State) : Result :=
  .next (raiseUnimplemented 0x93 s)

/-- 0x9F SHA abs,Y (R381) -/
def execShaAbsy (_a : Word) (s : State) : Result :=
  .next (raiseUnimplemented 0x9F s)

/-- 0x9B TAS abs,Y (R381) -/
def execTasAbsy (_a : Word) (s : State) : Result :=
  .next (raiseUnimplemented 0x9B s)

/-- 0x9C SHY abs,X (R381) -/
def execShyAbsx (_a : Word) (s : State) : Result :=
  .next (raiseUnimplemented 0x9C s)

/-- 0x9E SHX abs,Y (R381) -/
def execShxAbsy (_a : Word) (s : State) : Result :=
  .next (raiseUnimplemented 0x9E s)

/-- 0xAB LXA #b (R381) -/
def execLxaImm (_b : Byte) (s : State) : Result :=
  .next (raiseUnimplemented 0xAB s)

/-- 0xBB LAS abs,Y (R381) -/
def execLasAbsy (_a : Word) (s : State) : Result :=
  .next (raiseUnimplemented 0xBB s)

end Sys2Proof.Machine
end

