-- ==== Sys2Proof/Machine/FlagOps.lean ====
section
/-! DEFINITION. Flag instructions and the official NOP (R340 to R347 of 45_flags_nop.md). One definition for each constructor. -/

namespace Sys2Proof.Machine

/-- CLC's effect (R340). -/
def clearC (s : State) : State := s.setP { s.cpu.p with c := false }

/-- SEC's effect (R341). -/
def setC (s : State) : State := s.setP { s.cpu.p with c := true }

/-- CLI's effect (R342). -/
def clearI (s : State) : State := s.setP { s.cpu.p with i := false }

/-- SEI's effect (R343). -/
def setI (s : State) : State := s.setP { s.cpu.p with i := true }

/-- CLD's effect (R344). -/
def clearD (s : State) : State := s.setP { s.cpu.p with d := false }

/-- SED's effect (R345). -/
def setD (s : State) : State := s.setP { s.cpu.p with d := true }

/-- CLV's effect (R346). -/
def clearV (s : State) : State := s.setP { s.cpu.p with v := false }

/-- NOP's effect: none (R347, R361). -/
def noEffect (s : State) : State := s

/-- 0x18 CLC (R340) -/
def execClc (s : State) : Result :=
  .next (impliedInstr 0x18 clearC s)

/-- 0x38 SEC (R341) -/
def execSec (s : State) : Result :=
  .next (impliedInstr 0x38 setC s)

/-- 0x58 CLI (R342) -/
def execCli (s : State) : Result :=
  .next (impliedInstr 0x58 clearI s)

/-- 0x78 SEI (R343) -/
def execSei (s : State) : Result :=
  .next (impliedInstr 0x78 setI s)

/-- 0xD8 CLD (R344) -/
def execCld (s : State) : Result :=
  .next (impliedInstr 0xD8 clearD s)

/-- 0xF8 SED (R345) -/
def execSed (s : State) : Result :=
  .next (impliedInstr 0xF8 setD s)

/-- 0xB8 CLV (R346) -/
def execClv (s : State) : Result :=
  .next (impliedInstr 0xB8 clearV s)

/-- 0xEA NOP (R347) -/
def execNop (s : State) : Result :=
  .next (impliedInstr 0xEA noEffect s)

end Sys2Proof.Machine
end

