-- ==== Sys2Proof/Machine/IncDec.lean ====
section
/-! DEFINITION. Increment and decrement (R250 to R255 of 42_arith_logic.md). One definition for each constructor. -/

namespace Sys2Proof.Machine

/-- INX's effect (R252). -/
def incX8 (s : State) : State := (s.setX (s.cpu.x + 1)).setNZ (s.cpu.x + 1)

/-- INY's effect (R253). -/
def incY8 (s : State) : State := (s.setY (s.cpu.y + 1)).setNZ (s.cpu.y + 1)

/-- DEX's effect (R254). -/
def decX8 (s : State) : State := (s.setX (s.cpu.x - 1)).setNZ (s.cpu.x - 1)

/-- DEY's effect (R255). -/
def decY8 (s : State) : State := (s.setY (s.cpu.y - 1)).setNZ (s.cpu.y - 1)

/-- 0xE6 INC zp (R250) -/
def execIncZp (b : Byte) (s : State) : Result :=
  .next (rmwInstr 0xE6 (.zp b) incFlags noCombine s)

/-- 0xEE INC abs (R250) -/
def execIncAbs (a : Word) (s : State) : Result :=
  .next (rmwInstr 0xEE (.abs a) incFlags noCombine s)

/-- 0xF6 INC zp,X (R250) -/
def execIncZpx (b : Byte) (s : State) : Result :=
  .next (rmwInstr 0xF6 (.zpx b) incFlags noCombine s)

/-- 0xFE INC abs,X (R250) -/
def execIncAbsx (a : Word) (s : State) : Result :=
  .next (rmwInstr 0xFE (.absx a) incFlags noCombine s)

/-- 0xC6 DEC zp (R251) -/
def execDecZp (b : Byte) (s : State) : Result :=
  .next (rmwInstr 0xC6 (.zp b) decFlags noCombine s)

/-- 0xCE DEC abs (R251) -/
def execDecAbs (a : Word) (s : State) : Result :=
  .next (rmwInstr 0xCE (.abs a) decFlags noCombine s)

/-- 0xD6 DEC zp,X (R251) -/
def execDecZpx (b : Byte) (s : State) : Result :=
  .next (rmwInstr 0xD6 (.zpx b) decFlags noCombine s)

/-- 0xDE DEC abs,X (R251) -/
def execDecAbsx (a : Word) (s : State) : Result :=
  .next (rmwInstr 0xDE (.absx a) decFlags noCombine s)

/-- 0xE8 INX (R252) -/
def execInx (s : State) : Result :=
  .next (impliedInstr 0xE8 incX8 s)

/-- 0xC8 INY (R253) -/
def execIny (s : State) : Result :=
  .next (impliedInstr 0xC8 incY8 s)

/-- 0xCA DEX (R254) -/
def execDex (s : State) : Result :=
  .next (impliedInstr 0xCA decX8 s)

/-- 0x88 DEY (R255) -/
def execDey (s : State) : Result :=
  .next (impliedInstr 0x88 decY8 s)

end Sys2Proof.Machine
end

