-- ==== Sys2Proof/Machine/Jump.lean ====
section
/-! DEFINITION. Jumps, calls, returns and the software interrupt (R309 to R314 of 44_control_transfer.md). One definition for each constructor. -/

namespace Sys2Proof.Machine

/-- JMP absolute (R309). -/
def jumpTo (op : Byte) (a : Word) (s : State) : State := (s.charge op).setPc a

/-- JMP indirect (R310). -/
def jumpIndirect (op : Byte) (a : Word) (s : State) : State :=
  let r := readIndirect a (s.charge op)
  r.2.setPc r.1

/-- JSR: the pushed address is that of its last byte (R311). -/
def callSub (op : Byte) (a : Word) (s : State) : State :=
  (pushWord (s.cpu.pc + 2) (s.charge op)).setPc a

/-- RTS: the pulled address plus 1 (R312). -/
def returnSub (op : Byte) (s : State) : State :=
  let r := pullWord (s.charge op)
  r.2.setPc (r.1 + 1)

/-- BRK: takes the exception with B = 1 and the address two bytes on as the return address (R313). -/
def softwareInterrupt (op : Byte) (s : State) : State :=
  takeException (s.cpu.pc + 2) true irqVector (s.charge op)

/-- RTI (R314). -/
def interruptReturn (op : Byte) (s : State) : State := returnFromException (s.charge op)

/-- 0x4C JMP abs (R309) -/
def execJmpAbs (a : Word) (s : State) : Result :=
  .next (jumpTo 0x4C a s)

/-- 0x6C JMP (abs) (R310) -/
def execJmpInd (a : Word) (s : State) : Result :=
  .next (jumpIndirect 0x6C a s)

/-- 0x20 JSR abs (R311) -/
def execJsr (a : Word) (s : State) : Result :=
  .next (callSub 0x20 a s)

/-- 0x60 RTS (R312) -/
def execRts (s : State) : Result :=
  .next (returnSub 0x60 s)

/-- 0x00 BRK (R313) -/
def execBrk (s : State) : Result :=
  .next (softwareInterrupt 0x00 s)

/-- 0x40 RTI (R314) -/
def execRti (s : State) : Result :=
  .next (interruptReturn 0x40 s)

end Sys2Proof.Machine
end

