-- ==== Sys2Proof/Machine/Load.lean ====
section
/-! DEFINITION. Loads (R201 to R203 of 40_load_store_transfer.md). One definition for each constructor. -/

namespace Sys2Proof.Machine

/-- LDA's effect (R201). -/
def loadA (m : Byte) (s : State) : State := (s.setA m).setNZ m

/-- LDX's effect (R202). -/
def loadX (m : Byte) (s : State) : State := (s.setX m).setNZ m

/-- LDY's effect (R203). -/
def loadY (m : Byte) (s : State) : State := (s.setY m).setNZ m

/-- 0xA1 LDA (zp,X) (R201) -/
def execLdaIndx (b : Byte) (s : State) : Result :=
  .next (readInstr 0xA1 (.indx b) loadA s)

/-- 0xA5 LDA zp (R201) -/
def execLdaZp (b : Byte) (s : State) : Result :=
  .next (readInstr 0xA5 (.zp b) loadA s)

/-- 0xA9 LDA #b (R201) -/
def execLdaImm (b : Byte) (s : State) : Result :=
  .next (readInstr 0xA9 (.imm b) loadA s)

/-- 0xAD LDA abs (R201) -/
def execLdaAbs (a : Word) (s : State) : Result :=
  .next (readInstr 0xAD (.abs a) loadA s)

/-- 0xB1 LDA (zp),Y (R201) -/
def execLdaIndy (b : Byte) (s : State) : Result :=
  .next (readInstr 0xB1 (.indy b) loadA s)

/-- 0xB5 LDA zp,X (R201) -/
def execLdaZpx (b : Byte) (s : State) : Result :=
  .next (readInstr 0xB5 (.zpx b) loadA s)

/-- 0xB9 LDA abs,Y (R201) -/
def execLdaAbsy (a : Word) (s : State) : Result :=
  .next (readInstr 0xB9 (.absy a) loadA s)

/-- 0xBD LDA abs,X (R201) -/
def execLdaAbsx (a : Word) (s : State) : Result :=
  .next (readInstr 0xBD (.absx a) loadA s)

/-- 0xA2 LDX #b (R202) -/
def execLdxImm (b : Byte) (s : State) : Result :=
  .next (readInstr 0xA2 (.imm b) loadX s)

/-- 0xA6 LDX zp (R202) -/
def execLdxZp (b : Byte) (s : State) : Result :=
  .next (readInstr 0xA6 (.zp b) loadX s)

/-- 0xAE LDX abs (R202) -/
def execLdxAbs (a : Word) (s : State) : Result :=
  .next (readInstr 0xAE (.abs a) loadX s)

/-- 0xB6 LDX zp,Y (R202) -/
def execLdxZpy (b : Byte) (s : State) : Result :=
  .next (readInstr 0xB6 (.zpy b) loadX s)

/-- 0xBE LDX abs,Y (R202) -/
def execLdxAbsy (a : Word) (s : State) : Result :=
  .next (readInstr 0xBE (.absy a) loadX s)

/-- 0xA0 LDY #b (R203) -/
def execLdyImm (b : Byte) (s : State) : Result :=
  .next (readInstr 0xA0 (.imm b) loadY s)

/-- 0xA4 LDY zp (R203) -/
def execLdyZp (b : Byte) (s : State) : Result :=
  .next (readInstr 0xA4 (.zp b) loadY s)

/-- 0xAC LDY abs (R203) -/
def execLdyAbs (a : Word) (s : State) : Result :=
  .next (readInstr 0xAC (.abs a) loadY s)

/-- 0xB4 LDY zp,X (R203) -/
def execLdyZpx (b : Byte) (s : State) : Result :=
  .next (readInstr 0xB4 (.zpx b) loadY s)

/-- 0xBC LDY abs,X (R203) -/
def execLdyAbsx (a : Word) (s : State) : Result :=
  .next (readInstr 0xBC (.absx a) loadY s)

end Sys2Proof.Machine
end

