-- ==== Sys2Proof/Machine/Logic.lean ====
section
/-! DEFINITION. Bitwise logic (R243 to R245 of 42_arith_logic.md). One definition for each constructor. -/

namespace Sys2Proof.Machine

/-- AND's effect (R243). -/
def andA (m : Byte) (s : State) : State := (s.setA (s.cpu.a &&& m)).setNZ (s.cpu.a &&& m)

/-- ORA's effect (R244). -/
def orA (m : Byte) (s : State) : State := (s.setA (s.cpu.a ||| m)).setNZ (s.cpu.a ||| m)

/-- EOR's effect (R245). -/
def eorA (m : Byte) (s : State) : State := (s.setA (s.cpu.a ^^^ m)).setNZ (s.cpu.a ^^^ m)

/-- 0x21 AND (zp,X) (R243) -/
def execAndIndx (b : Byte) (s : State) : Result :=
  .next (readInstr 0x21 (.indx b) andA s)

/-- 0x25 AND zp (R243) -/
def execAndZp (b : Byte) (s : State) : Result :=
  .next (readInstr 0x25 (.zp b) andA s)

/-- 0x29 AND #b (R243) -/
def execAndImm (b : Byte) (s : State) : Result :=
  .next (readInstr 0x29 (.imm b) andA s)

/-- 0x2D AND abs (R243) -/
def execAndAbs (a : Word) (s : State) : Result :=
  .next (readInstr 0x2D (.abs a) andA s)

/-- 0x31 AND (zp),Y (R243) -/
def execAndIndy (b : Byte) (s : State) : Result :=
  .next (readInstr 0x31 (.indy b) andA s)

/-- 0x35 AND zp,X (R243) -/
def execAndZpx (b : Byte) (s : State) : Result :=
  .next (readInstr 0x35 (.zpx b) andA s)

/-- 0x39 AND abs,Y (R243) -/
def execAndAbsy (a : Word) (s : State) : Result :=
  .next (readInstr 0x39 (.absy a) andA s)

/-- 0x3D AND abs,X (R243) -/
def execAndAbsx (a : Word) (s : State) : Result :=
  .next (readInstr 0x3D (.absx a) andA s)

/-- 0x01 ORA (zp,X) (R244) -/
def execOraIndx (b : Byte) (s : State) : Result :=
  .next (readInstr 0x01 (.indx b) orA s)

/-- 0x05 ORA zp (R244) -/
def execOraZp (b : Byte) (s : State) : Result :=
  .next (readInstr 0x05 (.zp b) orA s)

/-- 0x09 ORA #b (R244) -/
def execOraImm (b : Byte) (s : State) : Result :=
  .next (readInstr 0x09 (.imm b) orA s)

/-- 0x0D ORA abs (R244) -/
def execOraAbs (a : Word) (s : State) : Result :=
  .next (readInstr 0x0D (.abs a) orA s)

/-- 0x11 ORA (zp),Y (R244) -/
def execOraIndy (b : Byte) (s : State) : Result :=
  .next (readInstr 0x11 (.indy b) orA s)

/-- 0x15 ORA zp,X (R244) -/
def execOraZpx (b : Byte) (s : State) : Result :=
  .next (readInstr 0x15 (.zpx b) orA s)

/-- 0x19 ORA abs,Y (R244) -/
def execOraAbsy (a : Word) (s : State) : Result :=
  .next (readInstr 0x19 (.absy a) orA s)

/-- 0x1D ORA abs,X (R244) -/
def execOraAbsx (a : Word) (s : State) : Result :=
  .next (readInstr 0x1D (.absx a) orA s)

/-- 0x41 EOR (zp,X) (R245) -/
def execEorIndx (b : Byte) (s : State) : Result :=
  .next (readInstr 0x41 (.indx b) eorA s)

/-- 0x45 EOR zp (R245) -/
def execEorZp (b : Byte) (s : State) : Result :=
  .next (readInstr 0x45 (.zp b) eorA s)

/-- 0x49 EOR #b (R245) -/
def execEorImm (b : Byte) (s : State) : Result :=
  .next (readInstr 0x49 (.imm b) eorA s)

/-- 0x4D EOR abs (R245) -/
def execEorAbs (a : Word) (s : State) : Result :=
  .next (readInstr 0x4D (.abs a) eorA s)

/-- 0x51 EOR (zp),Y (R245) -/
def execEorIndy (b : Byte) (s : State) : Result :=
  .next (readInstr 0x51 (.indy b) eorA s)

/-- 0x55 EOR zp,X (R245) -/
def execEorZpx (b : Byte) (s : State) : Result :=
  .next (readInstr 0x55 (.zpx b) eorA s)

/-- 0x59 EOR abs,Y (R245) -/
def execEorAbsy (a : Word) (s : State) : Result :=
  .next (readInstr 0x59 (.absy a) eorA s)

/-- 0x5D EOR abs,X (R245) -/
def execEorAbsx (a : Word) (s : State) : Result :=
  .next (readInstr 0x5D (.absx a) eorA s)

end Sys2Proof.Machine
end

