-- ==== Sys2Proof/Machine/Shift.lean ====
section
/-! DEFINITION. Shifts and rotates (R290 to R293 of 43_shift_rotate.md). One definition for each constructor. -/

namespace Sys2Proof.Machine

/-- 0x06 ASL zp (R290) -/
def execAslZp (b : Byte) (s : State) : Result :=
  .next (rmwInstr 0x06 (.zp b) aslFlags noCombine s)

/-- 0x0A ASL A (R290) -/
def execAslAcc (s : State) : Result :=
  .next (accInstr 0x0A aslFlags s)

/-- 0x0E ASL abs (R290) -/
def execAslAbs (a : Word) (s : State) : Result :=
  .next (rmwInstr 0x0E (.abs a) aslFlags noCombine s)

/-- 0x16 ASL zp,X (R290) -/
def execAslZpx (b : Byte) (s : State) : Result :=
  .next (rmwInstr 0x16 (.zpx b) aslFlags noCombine s)

/-- 0x1E ASL abs,X (R290) -/
def execAslAbsx (a : Word) (s : State) : Result :=
  .next (rmwInstr 0x1E (.absx a) aslFlags noCombine s)

/-- 0x46 LSR zp (R291) -/
def execLsrZp (b : Byte) (s : State) : Result :=
  .next (rmwInstr 0x46 (.zp b) lsrFlags noCombine s)

/-- 0x4A LSR A (R291) -/
def execLsrAcc (s : State) : Result :=
  .next (accInstr 0x4A lsrFlags s)

/-- 0x4E LSR abs (R291) -/
def execLsrAbs (a : Word) (s : State) : Result :=
  .next (rmwInstr 0x4E (.abs a) lsrFlags noCombine s)

/-- 0x56 LSR zp,X (R291) -/
def execLsrZpx (b : Byte) (s : State) : Result :=
  .next (rmwInstr 0x56 (.zpx b) lsrFlags noCombine s)

/-- 0x5E LSR abs,X (R291) -/
def execLsrAbsx (a : Word) (s : State) : Result :=
  .next (rmwInstr 0x5E (.absx a) lsrFlags noCombine s)

/-- 0x26 ROL zp (R292) -/
def execRolZp (b : Byte) (s : State) : Result :=
  .next (rmwInstr 0x26 (.zp b) rolFlags noCombine s)

/-- 0x2A ROL A (R292) -/
def execRolAcc (s : State) : Result :=
  .next (accInstr 0x2A rolFlags s)

/-- 0x2E ROL abs (R292) -/
def execRolAbs (a : Word) (s : State) : Result :=
  .next (rmwInstr 0x2E (.abs a) rolFlags noCombine s)

/-- 0x36 ROL zp,X (R292) -/
def execRolZpx (b : Byte) (s : State) : Result :=
  .next (rmwInstr 0x36 (.zpx b) rolFlags noCombine s)

/-- 0x3E ROL abs,X (R292) -/
def execRolAbsx (a : Word) (s : State) : Result :=
  .next (rmwInstr 0x3E (.absx a) rolFlags noCombine s)

/-- 0x66 ROR zp (R293) -/
def execRorZp (b : Byte) (s : State) : Result :=
  .next (rmwInstr 0x66 (.zp b) rorFlags noCombine s)

/-- 0x6A ROR A (R293) -/
def execRorAcc (s : State) : Result :=
  .next (accInstr 0x6A rorFlags s)

/-- 0x6E ROR abs (R293) -/
def execRorAbs (a : Word) (s : State) : Result :=
  .next (rmwInstr 0x6E (.abs a) rorFlags noCombine s)

/-- 0x76 ROR zp,X (R293) -/
def execRorZpx (b : Byte) (s : State) : Result :=
  .next (rmwInstr 0x76 (.zpx b) rorFlags noCombine s)

/-- 0x7E ROR abs,X (R293) -/
def execRorAbsx (a : Word) (s : State) : Result :=
  .next (rmwInstr 0x7E (.absx a) rorFlags noCombine s)

end Sys2Proof.Machine
end

