-- ==== Sys2Proof/Machine/Stack.lean ====
section
/-! DEFINITION. Stack instructions (R230 to R233 of 41_stack.md). One definition for each constructor. -/

namespace Sys2Proof.Machine

/-- PHA's effect (R230). -/
def pushA (s : State) : State := push s.cpu.a s

/-- PHP's effect: bits 5 and 4 of the pushed image are 1 (R231). -/
def pushP (s : State) : State := push (statusImage s.cpu.p true) s

/-- PLA's effect (R232). -/
def pullA (s : State) : State :=
  let r := pull s
  (r.2.setA r.1).setNZ r.1

/-- PLP's effect (R233). -/
def pullP (s : State) : State :=
  let r := pull s
  r.2.setP (statusFlags r.1)

/-- 0x48 PHA (R230) -/
def execPha (s : State) : Result :=
  .next (impliedInstr 0x48 pushA s)

/-- 0x08 PHP (R231) -/
def execPhp (s : State) : Result :=
  .next (impliedInstr 0x08 pushP s)

/-- 0x68 PLA (R232) -/
def execPla (s : State) : Result :=
  .next (impliedInstr 0x68 pullA s)

/-- 0x28 PLP (R233) -/
def execPlp (s : State) : Result :=
  .next (impliedInstr 0x28 pullP s)

end Sys2Proof.Machine
end

