-- ==== Sys2Proof/Machine/Store.lean ====
section
/-! DEFINITION. Stores (R204 to R206 of 40_load_store_transfer.md). One definition for each constructor. -/

namespace Sys2Proof.Machine

/-- 0x81 STA (zp,X) (R204) -/
def execStaIndx (b : Byte) (s : State) : Result :=
  .next (storeInstr 0x81 (.indx b) Cpu.a s)

/-- 0x85 STA zp (R204) -/
def execStaZp (b : Byte) (s : State) : Result :=
  .next (storeInstr 0x85 (.zp b) Cpu.a s)

/-- 0x8D STA abs (R204) -/
def execStaAbs (a : Word) (s : State) : Result :=
  .next (storeInstr 0x8D (.abs a) Cpu.a s)

/-- 0x91 STA (zp),Y (R204) -/
def execStaIndy (b : Byte) (s : State) : Result :=
  .next (storeInstr 0x91 (.indy b) Cpu.a s)

/-- 0x95 STA zp,X (R204) -/
def execStaZpx (b : Byte) (s : State) : Result :=
  .next (storeInstr 0x95 (.zpx b) Cpu.a s)

/-- 0x99 STA abs,Y (R204) -/
def execStaAbsy (a : Word) (s : State) : Result :=
  .next (storeInstr 0x99 (.absy a) Cpu.a s)

/-- 0x9D STA abs,X (R204) -/
def execStaAbsx (a : Word) (s : State) : Result :=
  .next (storeInstr 0x9D (.absx a) Cpu.a s)

/-- 0x86 STX zp (R205) -/
def execStxZp (b : Byte) (s : State) : Result :=
  .next (storeInstr 0x86 (.zp b) Cpu.x s)

/-- 0x8E STX abs (R205) -/
def execStxAbs (a : Word) (s : State) : Result :=
  .next (storeInstr 0x8E (.abs a) Cpu.x s)

/-- 0x96 STX zp,Y (R205) -/
def execStxZpy (b : Byte) (s : State) : Result :=
  .next (storeInstr 0x96 (.zpy b) Cpu.x s)

/-- 0x84 STY zp (R206) -/
def execStyZp (b : Byte) (s : State) : Result :=
  .next (storeInstr 0x84 (.zp b) Cpu.y s)

/-- 0x8C STY abs (R206) -/
def execStyAbs (a : Word) (s : State) : Result :=
  .next (storeInstr 0x8C (.abs a) Cpu.y s)

/-- 0x94 STY zp,X (R206) -/
def execStyZpx (b : Byte) (s : State) : Result :=
  .next (storeInstr 0x94 (.zpx b) Cpu.y s)

end Sys2Proof.Machine
end

