-- ==== Sys2Proof/Machine/Transfer.lean ====
section
/-! DEFINITION. Register transfers (R207 to R212 of 40_load_store_transfer.md). One definition for each constructor. -/

namespace Sys2Proof.Machine

/-- TAX's effect (R207). -/
def transferAX (s : State) : State := (s.setX s.cpu.a).setNZ s.cpu.a

/-- TAY's effect (R208). -/
def transferAY (s : State) : State := (s.setY s.cpu.a).setNZ s.cpu.a

/-- TXA's effect (R209). -/
def transferXA (s : State) : State := (s.setA s.cpu.x).setNZ s.cpu.x

/-- TYA's effect (R210). -/
def transferYA (s : State) : State := (s.setA s.cpu.y).setNZ s.cpu.y

/-- TSX's effect (R211). -/
def transferSX (s : State) : State := (s.setX s.cpu.s).setNZ s.cpu.s

/-- TXS's effect: no flag (R212). -/
def transferXS (s : State) : State := s.setS s.cpu.x

/-- 0xAA TAX (R207) -/
def execTax (s : State) : Result :=
  .next (impliedInstr 0xAA transferAX s)

/-- 0xA8 TAY (R208) -/
def execTay (s : State) : Result :=
  .next (impliedInstr 0xA8 transferAY s)

/-- 0x8A TXA (R209) -/
def execTxa (s : State) : Result :=
  .next (impliedInstr 0x8A transferXA s)

/-- 0x98 TYA (R210) -/
def execTya (s : State) : Result :=
  .next (impliedInstr 0x98 transferYA s)

/-- 0xBA TSX (R211) -/
def execTsx (s : State) : Result :=
  .next (impliedInstr 0xBA transferSX s)

/-- 0x9A TXS (R212) -/
def execTxs (s : State) : Result :=
  .next (impliedInstr 0x9A transferXS s)

end Sys2Proof.Machine
end

