-- ==== Sys2Proof/Machine/UnofficialNop.lean ====
section
/-! DEFINITION. The 27 unofficial NOP forms (R361, R362 of 46_unofficial.md), behind the gate of R360. One definition for each constructor. -/

namespace Sys2Proof.Machine

/-- The read operand is discarded; the read itself is made (R362). -/
def discard (_m : Byte) (s : State) : State := s

/-- 0x04 NOP zp (R362) -/
def execNopZp04 (b : Byte) (s : State) : Result :=
  .next (gated 0x04 (fun s => readInstr 0x04 (.zp b) discard s) s)

/-- 0x0C NOP abs (R362) -/
def execNopAbs (a : Word) (s : State) : Result :=
  .next (gated 0x0C (fun s => readInstr 0x0C (.abs a) discard s) s)

/-- 0x14 NOP zp,X (R362) -/
def execNopZpx14 (b : Byte) (s : State) : Result :=
  .next (gated 0x14 (fun s => readInstr 0x14 (.zpx b) discard s) s)

/-- 0x1A NOP (R361) -/
def execNopImpl1A (s : State) : Result :=
  .next (gated 0x1A (fun s => impliedInstr 0x1A noEffect s) s)

/-- 0x1C NOP abs,X (R362) -/
def execNopAbsx1C (a : Word) (s : State) : Result :=
  .next (gated 0x1C (fun s => readInstr 0x1C (.absx a) discard s) s)

/-- 0x34 NOP zp,X (R362) -/
def execNopZpx34 (b : Byte) (s : State) : Result :=
  .next (gated 0x34 (fun s => readInstr 0x34 (.zpx b) discard s) s)

/-- 0x3A NOP (R361) -/
def execNopImpl3A (s : State) : Result :=
  .next (gated 0x3A (fun s => impliedInstr 0x3A noEffect s) s)

/-- 0x3C NOP abs,X (R362) -/
def execNopAbsx3C (a : Word) (s : State) : Result :=
  .next (gated 0x3C (fun s => readInstr 0x3C (.absx a) discard s) s)

/-- 0x44 NOP zp (R362) -/
def execNopZp44 (b : Byte) (s : State) : Result :=
  .next (gated 0x44 (fun s => readInstr 0x44 (.zp b) discard s) s)

/-- 0x54 NOP zp,X (R362) -/
def execNopZpx54 (b : Byte) (s : State) : Result :=
  .next (gated 0x54 (fun s => readInstr 0x54 (.zpx b) discard s) s)

/-- 0x5A NOP (R361) -/
def execNopImpl5A (s : State) : Result :=
  .next (gated 0x5A (fun s => impliedInstr 0x5A noEffect s) s)

/-- 0x5C NOP abs,X (R362) -/
def execNopAbsx5C (a : Word) (s : State) : Result :=
  .next (gated 0x5C (fun s => readInstr 0x5C (.absx a) discard s) s)

/-- 0x64 NOP zp (R362) -/
def execNopZp64 (b : Byte) (s : State) : Result :=
  .next (gated 0x64 (fun s => readInstr 0x64 (.zp b) discard s) s)

/-- 0x74 NOP zp,X (R362) -/
def execNopZpx74 (b : Byte) (s : State) : Result :=
  .next (gated 0x74 (fun s => readInstr 0x74 (.zpx b) discard s) s)

/-- 0x7A NOP (R361) -/
def execNopImpl7A (s : State) : Result :=
  .next (gated 0x7A (fun s => impliedInstr 0x7A noEffect s) s)

/-- 0x7C NOP abs,X (R362) -/
def execNopAbsx7C (a : Word) (s : State) : Result :=
  .next (gated 0x7C (fun s => readInstr 0x7C (.absx a) discard s) s)

/-- 0x80 NOP #b (R362) -/
def execNopImm80 (b : Byte) (s : State) : Result :=
  .next (gated 0x80 (fun s => readInstr 0x80 (.imm b) discard s) s)

/-- 0x82 NOP #b (R362) -/
def execNopImm82 (b : Byte) (s : State) : Result :=
  .next (gated 0x82 (fun s => readInstr 0x82 (.imm b) discard s) s)

/-- 0x89 NOP #b (R362) -/
def execNopImm89 (b : Byte) (s : State) : Result :=
  .next (gated 0x89 (fun s => readInstr 0x89 (.imm b) discard s) s)

/-- 0xC2 NOP #b (R362) -/
def execNopImmC2 (b : Byte) (s : State) : Result :=
  .next (gated 0xC2 (fun s => readInstr 0xC2 (.imm b) discard s) s)

/-- 0xD4 NOP zp,X (R362) -/
def execNopZpxD4 (b : Byte) (s : State) : Result :=
  .next (gated 0xD4 (fun s => readInstr 0xD4 (.zpx b) discard s) s)

/-- 0xDA NOP (R361) -/
def execNopImplDA (s : State) : Result :=
  .next (gated 0xDA (fun s => impliedInstr 0xDA noEffect s) s)

/-- 0xDC NOP abs,X (R362) -/
def execNopAbsxDC (a : Word) (s : State) : Result :=
  .next (gated 0xDC (fun s => readInstr 0xDC (.absx a) discard s) s)

/-- 0xE2 NOP #b (R362) -/
def execNopImmE2 (b : Byte) (s : State) : Result :=
  .next (gated 0xE2 (fun s => readInstr 0xE2 (.imm b) discard s) s)

/-- 0xF4 NOP zp,X (R362) -/
def execNopZpxF4 (b : Byte) (s : State) : Result :=
  .next (gated 0xF4 (fun s => readInstr 0xF4 (.zpx b) discard s) s)

/-- 0xFA NOP (R361) -/
def execNopImplFA (s : State) : Result :=
  .next (gated 0xFA (fun s => impliedInstr 0xFA noEffect s) s)

/-- 0xFC NOP abs,X (R362) -/
def execNopAbsxFC (a : Word) (s : State) : Result :=
  .next (gated 0xFC (fun s => readInstr 0xFC (.absx a) discard s) s)

end Sys2Proof.Machine
end

