-- ==== Sys2Proof/Machine/UnofficialOps.lean ====
section
/-! DEFINITION. SAX, LAX and the immediate combined opcodes (R368, R369, R372 to R375 of 46_unofficial.md), behind the gate of R360. One definition for each constructor. -/

namespace Sys2Proof.Machine

/-- SAX's value (R368). -/
def saxValue (c : Cpu) : Byte := c.a &&& c.x

/-- LAX's effect (R369). -/
def loadAX (m : Byte) (s : State) : State := ((s.setA m).setX m).setNZ m

/-- ANC's effect (R372). -/
def ancA (m : Byte) (s : State) : State :=
  let r := ancFlags s.cpu.p s.cpu.a m
  (s.setA r.1).setP r.2

/-- ALR's effect (R373). -/
def alrA (m : Byte) (s : State) : State :=
  let r := alrFlags s.cpu.p s.cpu.a m
  (s.setA r.1).setP r.2

/-- ARR's effect (R374). -/
def arrA (m : Byte) (s : State) : State :=
  let r := arrFlags s.cpu.p s.cpu.a m
  (s.setA r.1).setP r.2

/-- AXS's effect (R375). -/
def axsX (m : Byte) (s : State) : State :=
  let r := axsFlags s.cpu.p s.cpu.a s.cpu.x m
  (s.setX r.1).setP r.2

/-- 0x83 SAX (zp,X) (R368) -/
def execSaxIndx (b : Byte) (s : State) : Result :=
  .next (gated 0x83 (fun s => storeInstr 0x83 (.indx b) saxValue s) s)

/-- 0x87 SAX zp (R368) -/
def execSaxZp (b : Byte) (s : State) : Result :=
  .next (gated 0x87 (fun s => storeInstr 0x87 (.zp b) saxValue s) s)

/-- 0x8F SAX abs (R368) -/
def execSaxAbs (a : Word) (s : State) : Result :=
  .next (gated 0x8F (fun s => storeInstr 0x8F (.abs a) saxValue s) s)

/-- 0x97 SAX zp,Y (R368) -/
def execSaxZpy (b : Byte) (s : State) : Result :=
  .next (gated 0x97 (fun s => storeInstr 0x97 (.zpy b) saxValue s) s)

/-- 0xA3 LAX (zp,X) (R369) -/
def execLaxIndx (b : Byte) (s : State) : Result :=
  .next (gated 0xA3 (fun s => readInstr 0xA3 (.indx b) loadAX s) s)

/-- 0xA7 LAX zp (R369) -/
def execLaxZp (b : Byte) (s : State) : Result :=
  .next (gated 0xA7 (fun s => readInstr 0xA7 (.zp b) loadAX s) s)

/-- 0xAF LAX abs (R369) -/
def execLaxAbs (a : Word) (s : State) : Result :=
  .next (gated 0xAF (fun s => readInstr 0xAF (.abs a) loadAX s) s)

/-- 0xB3 LAX (zp),Y (R369) -/
def execLaxIndy (b : Byte) (s : State) : Result :=
  .next (gated 0xB3 (fun s => readInstr 0xB3 (.indy b) loadAX s) s)

/-- 0xB7 LAX zp,Y (R369) -/
def execLaxZpy (b : Byte) (s : State) : Result :=
  .next (gated 0xB7 (fun s => readInstr 0xB7 (.zpy b) loadAX s) s)

/-- 0xBF LAX abs,Y (R369) -/
def execLaxAbsy (a : Word) (s : State) : Result :=
  .next (gated 0xBF (fun s => readInstr 0xBF (.absy a) loadAX s) s)

/-- 0x0B ANC #b (R372) -/
def execAncImm0B (b : Byte) (s : State) : Result :=
  .next (gated 0x0B (fun s => readInstr 0x0B (.imm b) ancA s) s)

/-- 0x2B ANC #b (R372) -/
def execAncImm2B (b : Byte) (s : State) : Result :=
  .next (gated 0x2B (fun s => readInstr 0x2B (.imm b) ancA s) s)

/-- 0x4B ALR #b (R373) -/
def execAlrImm (b : Byte) (s : State) : Result :=
  .next (gated 0x4B (fun s => readInstr 0x4B (.imm b) alrA s) s)

/-- 0x6B ARR #b (R374) -/
def execArrImm (b : Byte) (s : State) : Result :=
  .next (gated 0x6B (fun s => readInstr 0x6B (.imm b) arrA s) s)

/-- 0xCB AXS #b (R375) -/
def execAxsImm (b : Byte) (s : State) : Result :=
  .next (gated 0xCB (fun s => readInstr 0xCB (.imm b) axsX s) s)

end Sys2Proof.Machine
end

