-- ==== Sys2Proof/Machine/UnofficialRmw.lean ====
section
/-! DEFINITION. The combined read-modify-write opcodes (R363 to R367, R370, R371 of 46_unofficial.md), behind the gate of R360. One definition for each constructor. -/

namespace Sys2Proof.Machine

/-- 0x03 SLO (zp,X) (R364) -/
def execSloIndx (b : Byte) (s : State) : Result :=
  .next (gated 0x03 (fun s => rmwInstr 0x03 (.indx b) aslFlags orA s) s)

/-- 0x07 SLO zp (R364) -/
def execSloZp (b : Byte) (s : State) : Result :=
  .next (gated 0x07 (fun s => rmwInstr 0x07 (.zp b) aslFlags orA s) s)

/-- 0x0F SLO abs (R364) -/
def execSloAbs (a : Word) (s : State) : Result :=
  .next (gated 0x0F (fun s => rmwInstr 0x0F (.abs a) aslFlags orA s) s)

/-- 0x13 SLO (zp),Y (R364) -/
def execSloIndy (b : Byte) (s : State) : Result :=
  .next (gated 0x13 (fun s => rmwInstr 0x13 (.indy b) aslFlags orA s) s)

/-- 0x17 SLO zp,X (R364) -/
def execSloZpx (b : Byte) (s : State) : Result :=
  .next (gated 0x17 (fun s => rmwInstr 0x17 (.zpx b) aslFlags orA s) s)

/-- 0x1B SLO abs,Y (R364) -/
def execSloAbsy (a : Word) (s : State) : Result :=
  .next (gated 0x1B (fun s => rmwInstr 0x1B (.absy a) aslFlags orA s) s)

/-- 0x1F SLO abs,X (R364) -/
def execSloAbsx (a : Word) (s : State) : Result :=
  .next (gated 0x1F (fun s => rmwInstr 0x1F (.absx a) aslFlags orA s) s)

/-- 0x23 RLA (zp,X) (R365) -/
def execRlaIndx (b : Byte) (s : State) : Result :=
  .next (gated 0x23 (fun s => rmwInstr 0x23 (.indx b) rolFlags andA s) s)

/-- 0x27 RLA zp (R365) -/
def execRlaZp (b : Byte) (s : State) : Result :=
  .next (gated 0x27 (fun s => rmwInstr 0x27 (.zp b) rolFlags andA s) s)

/-- 0x2F RLA abs (R365) -/
def execRlaAbs (a : Word) (s : State) : Result :=
  .next (gated 0x2F (fun s => rmwInstr 0x2F (.abs a) rolFlags andA s) s)

/-- 0x33 RLA (zp),Y (R365) -/
def execRlaIndy (b : Byte) (s : State) : Result :=
  .next (gated 0x33 (fun s => rmwInstr 0x33 (.indy b) rolFlags andA s) s)

/-- 0x37 RLA zp,X (R365) -/
def execRlaZpx (b : Byte) (s : State) : Result :=
  .next (gated 0x37 (fun s => rmwInstr 0x37 (.zpx b) rolFlags andA s) s)

/-- 0x3B RLA abs,Y (R365) -/
def execRlaAbsy (a : Word) (s : State) : Result :=
  .next (gated 0x3B (fun s => rmwInstr 0x3B (.absy a) rolFlags andA s) s)

/-- 0x3F RLA abs,X (R365) -/
def execRlaAbsx (a : Word) (s : State) : Result :=
  .next (gated 0x3F (fun s => rmwInstr 0x3F (.absx a) rolFlags andA s) s)

/-- 0x43 SRE (zp,X) (R366) -/
def execSreIndx (b : Byte) (s : State) : Result :=
  .next (gated 0x43 (fun s => rmwInstr 0x43 (.indx b) lsrFlags eorA s) s)

/-- 0x47 SRE zp (R366) -/
def execSreZp (b : Byte) (s : State) : Result :=
  .next (gated 0x47 (fun s => rmwInstr 0x47 (.zp b) lsrFlags eorA s) s)

/-- 0x4F SRE abs (R366) -/
def execSreAbs (a : Word) (s : State) : Result :=
  .next (gated 0x4F (fun s => rmwInstr 0x4F (.abs a) lsrFlags eorA s) s)

/-- 0x53 SRE (zp),Y (R366) -/
def execSreIndy (b : Byte) (s : State) : Result :=
  .next (gated 0x53 (fun s => rmwInstr 0x53 (.indy b) lsrFlags eorA s) s)

/-- 0x57 SRE zp,X (R366) -/
def execSreZpx (b : Byte) (s : State) : Result :=
  .next (gated 0x57 (fun s => rmwInstr 0x57 (.zpx b) lsrFlags eorA s) s)

/-- 0x5B SRE abs,Y (R366) -/
def execSreAbsy (a : Word) (s : State) : Result :=
  .next (gated 0x5B (fun s => rmwInstr 0x5B (.absy a) lsrFlags eorA s) s)

/-- 0x5F SRE abs,X (R366) -/
def execSreAbsx (a : Word) (s : State) : Result :=
  .next (gated 0x5F (fun s => rmwInstr 0x5F (.absx a) lsrFlags eorA s) s)

/-- 0x63 RRA (zp,X) (R367) -/
def execRraIndx (b : Byte) (s : State) : Result :=
  .next (gated 0x63 (fun s => rmwInstr 0x63 (.indx b) rorFlags addToA s) s)

/-- 0x67 RRA zp (R367) -/
def execRraZp (b : Byte) (s : State) : Result :=
  .next (gated 0x67 (fun s => rmwInstr 0x67 (.zp b) rorFlags addToA s) s)

/-- 0x6F RRA abs (R367) -/
def execRraAbs (a : Word) (s : State) : Result :=
  .next (gated 0x6F (fun s => rmwInstr 0x6F (.abs a) rorFlags addToA s) s)

/-- 0x73 RRA (zp),Y (R367) -/
def execRraIndy (b : Byte) (s : State) : Result :=
  .next (gated 0x73 (fun s => rmwInstr 0x73 (.indy b) rorFlags addToA s) s)

/-- 0x77 RRA zp,X (R367) -/
def execRraZpx (b : Byte) (s : State) : Result :=
  .next (gated 0x77 (fun s => rmwInstr 0x77 (.zpx b) rorFlags addToA s) s)

/-- 0x7B RRA abs,Y (R367) -/
def execRraAbsy (a : Word) (s : State) : Result :=
  .next (gated 0x7B (fun s => rmwInstr 0x7B (.absy a) rorFlags addToA s) s)

/-- 0x7F RRA abs,X (R367) -/
def execRraAbsx (a : Word) (s : State) : Result :=
  .next (gated 0x7F (fun s => rmwInstr 0x7F (.absx a) rorFlags addToA s) s)

/-- 0xC3 DCP (zp,X) (R370) -/
def execDcpIndx (b : Byte) (s : State) : Result :=
  .next (gated 0xC3 (fun s => rmwInstr 0xC3 (.indx b) decFlags compareA s) s)

/-- 0xC7 DCP zp (R370) -/
def execDcpZp (b : Byte) (s : State) : Result :=
  .next (gated 0xC7 (fun s => rmwInstr 0xC7 (.zp b) decFlags compareA s) s)

/-- 0xCF DCP abs (R370) -/
def execDcpAbs (a : Word) (s : State) : Result :=
  .next (gated 0xCF (fun s => rmwInstr 0xCF (.abs a) decFlags compareA s) s)

/-- 0xD3 DCP (zp),Y (R370) -/
def execDcpIndy (b : Byte) (s : State) : Result :=
  .next (gated 0xD3 (fun s => rmwInstr 0xD3 (.indy b) decFlags compareA s) s)

/-- 0xD7 DCP zp,X (R370) -/
def execDcpZpx (b : Byte) (s : State) : Result :=
  .next (gated 0xD7 (fun s => rmwInstr 0xD7 (.zpx b) decFlags compareA s) s)

/-- 0xDB DCP abs,Y (R370) -/
def execDcpAbsy (a : Word) (s : State) : Result :=
  .next (gated 0xDB (fun s => rmwInstr 0xDB (.absy a) decFlags compareA s) s)

/-- 0xDF DCP abs,X (R370) -/
def execDcpAbsx (a : Word) (s : State) : Result :=
  .next (gated 0xDF (fun s => rmwInstr 0xDF (.absx a) decFlags compareA s) s)

/-- 0xE3 ISC (zp,X) (R371) -/
def execIscIndx (b : Byte) (s : State) : Result :=
  .next (gated 0xE3 (fun s => rmwInstr 0xE3 (.indx b) incFlags subFromA s) s)

/-- 0xE7 ISC zp (R371) -/
def execIscZp (b : Byte) (s : State) : Result :=
  .next (gated 0xE7 (fun s => rmwInstr 0xE7 (.zp b) incFlags subFromA s) s)

/-- 0xEF ISC abs (R371) -/
def execIscAbs (a : Word) (s : State) : Result :=
  .next (gated 0xEF (fun s => rmwInstr 0xEF (.abs a) incFlags subFromA s) s)

/-- 0xF3 ISC (zp),Y (R371) -/
def execIscIndy (b : Byte) (s : State) : Result :=
  .next (gated 0xF3 (fun s => rmwInstr 0xF3 (.indy b) incFlags subFromA s) s)

/-- 0xF7 ISC zp,X (R371) -/
def execIscZpx (b : Byte) (s : State) : Result :=
  .next (gated 0xF7 (fun s => rmwInstr 0xF7 (.zpx b) incFlags subFromA s) s)

/-- 0xFB ISC abs,Y (R371) -/
def execIscAbsy (a : Word) (s : State) : Result :=
  .next (gated 0xFB (fun s => rmwInstr 0xFB (.absy a) incFlags subFromA s) s)

/-- 0xFF ISC abs,X (R371) -/
def execIscAbsx (a : Word) (s : State) : Result :=
  .next (gated 0xFF (fun s => rmwInstr 0xFF (.absx a) incFlags subFromA s) s)

end Sys2Proof.Machine
end

