-- ==== Sys2Proof/Syntax.lean ====
section
/-! DEFINITION. The instructions: one constructor for each row of the opcode table, with its operand byte or 16-bit
operand (R170, R172, R186 of 30_encoding.md): first the 2-byte and 3-byte instructions, then the 1-byte ones, each group in the
table's order. Where several rows share a mnemonic and a mode, the constructor carries the opcode in hexadecimal. -/

namespace Sys2Proof

/-- The thirteen addressing modes (R172). -/
inductive Mode where
  | impl
  | acc
  | imm
  | zp
  | zpx
  | zpy
  | rel
  | abs
  | absx
  | absy
  | ind
  | indx
  | indy
deriving DecidableEq, Repr

/-- The four classes of the opcode map (R186): official, unofficial but stable (the mark `*`), unstable (the mark `!`) and JAM. -/
inductive OpcodeClass where
  | official
  | unofficial
  | unstable
  | jam
deriving DecidableEq, Repr

/-- An instruction with its operand. A 2-byte instruction holds `b1`; a 3-byte one holds the address `b2:b1` (R173). -/
inductive Instr where
  /-- 0x01 ORA (zp,X) (R244) -/
  | oraIndx (b : Byte)
  /-- 0x03 SLO (zp,X) (R364) -/
  | sloIndx (b : Byte)
  /-- 0x04 NOP zp (R362) -/
  | nopZp04 (b : Byte)
  /-- 0x05 ORA zp (R244) -/
  | oraZp (b : Byte)
  /-- 0x06 ASL zp (R290) -/
  | aslZp (b : Byte)
  /-- 0x07 SLO zp (R364) -/
  | sloZp (b : Byte)
  /-- 0x09 ORA #b (R244) -/
  | oraImm (b : Byte)
  /-- 0x0B ANC #b (R372) -/
  | ancImm0B (b : Byte)
  /-- 0x0C NOP abs (R362) -/
  | nopAbs (a : Word)
  /-- 0x0D ORA abs (R244) -/
  | oraAbs (a : Word)
  /-- 0x0E ASL abs (R290) -/
  | aslAbs (a : Word)
  /-- 0x0F SLO abs (R364) -/
  | sloAbs (a : Word)
  /-- 0x10 BPL offset (R306) -/
  | bpl (b : Byte)
  /-- 0x11 ORA (zp),Y (R244) -/
  | oraIndy (b : Byte)
  /-- 0x13 SLO (zp),Y (R364) -/
  | sloIndy (b : Byte)
  /-- 0x14 NOP zp,X (R362) -/
  | nopZpx14 (b : Byte)
  /-- 0x15 ORA zp,X (R244) -/
  | oraZpx (b : Byte)
  /-- 0x16 ASL zp,X (R290) -/
  | aslZpx (b : Byte)
  /-- 0x17 SLO zp,X (R364) -/
  | sloZpx (b : Byte)
  /-- 0x19 ORA abs,Y (R244) -/
  | oraAbsy (a : Word)
  /-- 0x1B SLO abs,Y (R364) -/
  | sloAbsy (a : Word)
  /-- 0x1C NOP abs,X (R362) -/
  | nopAbsx1C (a : Word)
  /-- 0x1D ORA abs,X (R244) -/
  | oraAbsx (a : Word)
  /-- 0x1E ASL abs,X (R290) -/
  | aslAbsx (a : Word)
  /-- 0x1F SLO abs,X (R364) -/
  | sloAbsx (a : Word)
  /-- 0x20 JSR abs (R311) -/
  | jsr (a : Word)
  /-- 0x21 AND (zp,X) (R243) -/
  | andIndx (b : Byte)
  /-- 0x23 RLA (zp,X) (R365) -/
  | rlaIndx (b : Byte)
  /-- 0x24 BIT zp (R249) -/
  | bitZp (b : Byte)
  /-- 0x25 AND zp (R243) -/
  | andZp (b : Byte)
  /-- 0x26 ROL zp (R292) -/
  | rolZp (b : Byte)
  /-- 0x27 RLA zp (R365) -/
  | rlaZp (b : Byte)
  /-- 0x29 AND #b (R243) -/
  | andImm (b : Byte)
  /-- 0x2B ANC #b (R372) -/
  | ancImm2B (b : Byte)
  /-- 0x2C BIT abs (R249) -/
  | bitAbs (a : Word)
  /-- 0x2D AND abs (R243) -/
  | andAbs (a : Word)
  /-- 0x2E ROL abs (R292) -/
  | rolAbs (a : Word)
  /-- 0x2F RLA abs (R365) -/
  | rlaAbs (a : Word)
  /-- 0x30 BMI offset (R304) -/
  | bmi (b : Byte)
  /-- 0x31 AND (zp),Y (R243) -/
  | andIndy (b : Byte)
  /-- 0x33 RLA (zp),Y (R365) -/
  | rlaIndy (b : Byte)
  /-- 0x34 NOP zp,X (R362) -/
  | nopZpx34 (b : Byte)
  /-- 0x35 AND zp,X (R243) -/
  | andZpx (b : Byte)
  /-- 0x36 ROL zp,X (R292) -/
  | rolZpx (b : Byte)
  /-- 0x37 RLA zp,X (R365) -/
  | rlaZpx (b : Byte)
  /-- 0x39 AND abs,Y (R243) -/
  | andAbsy (a : Word)
  /-- 0x3B RLA abs,Y (R365) -/
  | rlaAbsy (a : Word)
  /-- 0x3C NOP abs,X (R362) -/
  | nopAbsx3C (a : Word)
  /-- 0x3D AND abs,X (R243) -/
  | andAbsx (a : Word)
  /-- 0x3E ROL abs,X (R292) -/
  | rolAbsx (a : Word)
  /-- 0x3F RLA abs,X (R365) -/
  | rlaAbsx (a : Word)
  /-- 0x41 EOR (zp,X) (R245) -/
  | eorIndx (b : Byte)
  /-- 0x43 SRE (zp,X) (R366) -/
  | sreIndx (b : Byte)
  /-- 0x44 NOP zp (R362) -/
  | nopZp44 (b : Byte)
  /-- 0x45 EOR zp (R245) -/
  | eorZp (b : Byte)
  /-- 0x46 LSR zp (R291) -/
  | lsrZp (b : Byte)
  /-- 0x47 SRE zp (R366) -/
  | sreZp (b : Byte)
  /-- 0x49 EOR #b (R245) -/
  | eorImm (b : Byte)
  /-- 0x4B ALR #b (R373) -/
  | alrImm (b : Byte)
  /-- 0x4C JMP abs (R309) -/
  | jmpAbs (a : Word)
  /-- 0x4D EOR abs (R245) -/
  | eorAbs (a : Word)
  /-- 0x4E LSR abs (R291) -/
  | lsrAbs (a : Word)
  /-- 0x4F SRE abs (R366) -/
  | sreAbs (a : Word)
  /-- 0x50 BVC offset (R307) -/
  | bvc (b : Byte)
  /-- 0x51 EOR (zp),Y (R245) -/
  | eorIndy (b : Byte)
  /-- 0x53 SRE (zp),Y (R366) -/
  | sreIndy (b : Byte)
  /-- 0x54 NOP zp,X (R362) -/
  | nopZpx54 (b : Byte)
  /-- 0x55 EOR zp,X (R245) -/
  | eorZpx (b : Byte)
  /-- 0x56 LSR zp,X (R291) -/
  | lsrZpx (b : Byte)
  /-- 0x57 SRE zp,X (R366) -/
  | sreZpx (b : Byte)
  /-- 0x59 EOR abs,Y (R245) -/
  | eorAbsy (a : Word)
  /-- 0x5B SRE abs,Y (R366) -/
  | sreAbsy (a : Word)
  /-- 0x5C NOP abs,X (R362) -/
  | nopAbsx5C (a : Word)
  /-- 0x5D EOR abs,X (R245) -/
  | eorAbsx (a : Word)
  /-- 0x5E LSR abs,X (R291) -/
  | lsrAbsx (a : Word)
  /-- 0x5F SRE abs,X (R366) -/
  | sreAbsx (a : Word)
  /-- 0x61 ADC (zp,X) (R241) -/
  | adcIndx (b : Byte)
  /-- 0x63 RRA (zp,X) (R367) -/
  | rraIndx (b : Byte)
  /-- 0x64 NOP zp (R362) -/
  | nopZp64 (b : Byte)
  /-- 0x65 ADC zp (R241) -/
  | adcZp (b : Byte)
  /-- 0x66 ROR zp (R293) -/
  | rorZp (b : Byte)
  /-- 0x67 RRA zp (R367) -/
  | rraZp (b : Byte)
  /-- 0x69 ADC #b (R241) -/
  | adcImm (b : Byte)
  /-- 0x6B ARR #b (R374) -/
  | arrImm (b : Byte)
  /-- 0x6C JMP (abs) (R310) -/
  | jmpInd (a : Word)
  /-- 0x6D ADC abs (R241) -/
  | adcAbs (a : Word)
  /-- 0x6E ROR abs (R293) -/
  | rorAbs (a : Word)
  /-- 0x6F RRA abs (R367) -/
  | rraAbs (a : Word)
  /-- 0x70 BVS offset (R308) -/
  | bvs (b : Byte)
  /-- 0x71 ADC (zp),Y (R241) -/
  | adcIndy (b : Byte)
  /-- 0x73 RRA (zp),Y (R367) -/
  | rraIndy (b : Byte)
  /-- 0x74 NOP zp,X (R362) -/
  | nopZpx74 (b : Byte)
  /-- 0x75 ADC zp,X (R241) -/
  | adcZpx (b : Byte)
  /-- 0x76 ROR zp,X (R293) -/
  | rorZpx (b : Byte)
  /-- 0x77 RRA zp,X (R367) -/
  | rraZpx (b : Byte)
  /-- 0x79 ADC abs,Y (R241) -/
  | adcAbsy (a : Word)
  /-- 0x7B RRA abs,Y (R367) -/
  | rraAbsy (a : Word)
  /-- 0x7C NOP abs,X (R362) -/
  | nopAbsx7C (a : Word)
  /-- 0x7D ADC abs,X (R241) -/
  | adcAbsx (a : Word)
  /-- 0x7E ROR abs,X (R293) -/
  | rorAbsx (a : Word)
  /-- 0x7F RRA abs,X (R367) -/
  | rraAbsx (a : Word)
  /-- 0x80 NOP #b (R362) -/
  | nopImm80 (b : Byte)
  /-- 0x81 STA (zp,X) (R204) -/
  | staIndx (b : Byte)
  /-- 0x82 NOP #b (R362) -/
  | nopImm82 (b : Byte)
  /-- 0x83 SAX (zp,X) (R368) -/
  | saxIndx (b : Byte)
  /-- 0x84 STY zp (R206) -/
  | styZp (b : Byte)
  /-- 0x85 STA zp (R204) -/
  | staZp (b : Byte)
  /-- 0x86 STX zp (R205) -/
  | stxZp (b : Byte)
  /-- 0x87 SAX zp (R368) -/
  | saxZp (b : Byte)
  /-- 0x89 NOP #b (R362) -/
  | nopImm89 (b : Byte)
  /-- 0x8B ANE #b (R381) -/
  | aneImm (b : Byte)
  /-- 0x8C STY abs (R206) -/
  | styAbs (a : Word)
  /-- 0x8D STA abs (R204) -/
  | staAbs (a : Word)
  /-- 0x8E STX abs (R205) -/
  | stxAbs (a : Word)
  /-- 0x8F SAX abs (R368) -/
  | saxAbs (a : Word)
  /-- 0x90 BCC offset (R301) -/
  | bcc (b : Byte)
  /-- 0x91 STA (zp),Y (R204) -/
  | staIndy (b : Byte)
  /-- 0x93 SHA (zp),Y (R381) -/
  | shaIndy (b : Byte)
  /-- 0x94 STY zp,X (R206) -/
  | styZpx (b : Byte)
  /-- 0x95 STA zp,X (R204) -/
  | staZpx (b : Byte)
  /-- 0x96 STX zp,Y (R205) -/
  | stxZpy (b : Byte)
  /-- 0x97 SAX zp,Y (R368) -/
  | saxZpy (b : Byte)
  /-- 0x99 STA abs,Y (R204) -/
  | staAbsy (a : Word)
  /-- 0x9B TAS abs,Y (R381) -/
  | tasAbsy (a : Word)
  /-- 0x9C SHY abs,X (R381) -/
  | shyAbsx (a : Word)
  /-- 0x9D STA abs,X (R204) -/
  | staAbsx (a : Word)
  /-- 0x9E SHX abs,Y (R381) -/
  | shxAbsy (a : Word)
  /-- 0x9F SHA abs,Y (R381) -/
  | shaAbsy (a : Word)
  /-- 0xA0 LDY #b (R203) -/
  | ldyImm (b : Byte)
  /-- 0xA1 LDA (zp,X) (R201) -/
  | ldaIndx (b : Byte)
  /-- 0xA2 LDX #b (R202) -/
  | ldxImm (b : Byte)
  /-- 0xA3 LAX (zp,X) (R369) -/
  | laxIndx (b : Byte)
  /-- 0xA4 LDY zp (R203) -/
  | ldyZp (b : Byte)
  /-- 0xA5 LDA zp (R201) -/
  | ldaZp (b : Byte)
  /-- 0xA6 LDX zp (R202) -/
  | ldxZp (b : Byte)
  /-- 0xA7 LAX zp (R369) -/
  | laxZp (b : Byte)
  /-- 0xA9 LDA #b (R201) -/
  | ldaImm (b : Byte)
  /-- 0xAB LXA #b (R381) -/
  | lxaImm (b : Byte)
  /-- 0xAC LDY abs (R203) -/
  | ldyAbs (a : Word)
  /-- 0xAD LDA abs (R201) -/
  | ldaAbs (a : Word)
  /-- 0xAE LDX abs (R202) -/
  | ldxAbs (a : Word)
  /-- 0xAF LAX abs (R369) -/
  | laxAbs (a : Word)
  /-- 0xB0 BCS offset (R302) -/
  | bcs (b : Byte)
  /-- 0xB1 LDA (zp),Y (R201) -/
  | ldaIndy (b : Byte)
  /-- 0xB3 LAX (zp),Y (R369) -/
  | laxIndy (b : Byte)
  /-- 0xB4 LDY zp,X (R203) -/
  | ldyZpx (b : Byte)
  /-- 0xB5 LDA zp,X (R201) -/
  | ldaZpx (b : Byte)
  /-- 0xB6 LDX zp,Y (R202) -/
  | ldxZpy (b : Byte)
  /-- 0xB7 LAX zp,Y (R369) -/
  | laxZpy (b : Byte)
  /-- 0xB9 LDA abs,Y (R201) -/
  | ldaAbsy (a : Word)
  /-- 0xBB LAS abs,Y (R381) -/
  | lasAbsy (a : Word)
  /-- 0xBC LDY abs,X (R203) -/
  | ldyAbsx (a : Word)
  /-- 0xBD LDA abs,X (R201) -/
  | ldaAbsx (a : Word)
  /-- 0xBE LDX abs,Y (R202) -/
  | ldxAbsy (a : Word)
  /-- 0xBF LAX abs,Y (R369) -/
  | laxAbsy (a : Word)
  /-- 0xC0 CPY #b (R248) -/
  | cpyImm (b : Byte)
  /-- 0xC1 CMP (zp,X) (R246) -/
  | cmpIndx (b : Byte)
  /-- 0xC2 NOP #b (R362) -/
  | nopImmC2 (b : Byte)
  /-- 0xC3 DCP (zp,X) (R370) -/
  | dcpIndx (b : Byte)
  /-- 0xC4 CPY zp (R248) -/
  | cpyZp (b : Byte)
  /-- 0xC5 CMP zp (R246) -/
  | cmpZp (b : Byte)
  /-- 0xC6 DEC zp (R251) -/
  | decZp (b : Byte)
  /-- 0xC7 DCP zp (R370) -/
  | dcpZp (b : Byte)
  /-- 0xC9 CMP #b (R246) -/
  | cmpImm (b : Byte)
  /-- 0xCB AXS #b (R375) -/
  | axsImm (b : Byte)
  /-- 0xCC CPY abs (R248) -/
  | cpyAbs (a : Word)
  /-- 0xCD CMP abs (R246) -/
  | cmpAbs (a : Word)
  /-- 0xCE DEC abs (R251) -/
  | decAbs (a : Word)
  /-- 0xCF DCP abs (R370) -/
  | dcpAbs (a : Word)
  /-- 0xD0 BNE offset (R305) -/
  | bne (b : Byte)
  /-- 0xD1 CMP (zp),Y (R246) -/
  | cmpIndy (b : Byte)
  /-- 0xD3 DCP (zp),Y (R370) -/
  | dcpIndy (b : Byte)
  /-- 0xD4 NOP zp,X (R362) -/
  | nopZpxD4 (b : Byte)
  /-- 0xD5 CMP zp,X (R246) -/
  | cmpZpx (b : Byte)
  /-- 0xD6 DEC zp,X (R251) -/
  | decZpx (b : Byte)
  /-- 0xD7 DCP zp,X (R370) -/
  | dcpZpx (b : Byte)
  /-- 0xD9 CMP abs,Y (R246) -/
  | cmpAbsy (a : Word)
  /-- 0xDB DCP abs,Y (R370) -/
  | dcpAbsy (a : Word)
  /-- 0xDC NOP abs,X (R362) -/
  | nopAbsxDC (a : Word)
  /-- 0xDD CMP abs,X (R246) -/
  | cmpAbsx (a : Word)
  /-- 0xDE DEC abs,X (R251) -/
  | decAbsx (a : Word)
  /-- 0xDF DCP abs,X (R370) -/
  | dcpAbsx (a : Word)
  /-- 0xE0 CPX #b (R247) -/
  | cpxImm (b : Byte)
  /-- 0xE1 SBC (zp,X) (R242) -/
  | sbcIndx (b : Byte)
  /-- 0xE2 NOP #b (R362) -/
  | nopImmE2 (b : Byte)
  /-- 0xE3 ISC (zp,X) (R371) -/
  | iscIndx (b : Byte)
  /-- 0xE4 CPX zp (R247) -/
  | cpxZp (b : Byte)
  /-- 0xE5 SBC zp (R242) -/
  | sbcZp (b : Byte)
  /-- 0xE6 INC zp (R250) -/
  | incZp (b : Byte)
  /-- 0xE7 ISC zp (R371) -/
  | iscZp (b : Byte)
  /-- 0xE9 SBC #b (R242) -/
  | sbcImm (b : Byte)
  /-- 0xEB SBC #b (R376) -/
  | sbcImmEB (b : Byte)
  /-- 0xEC CPX abs (R247) -/
  | cpxAbs (a : Word)
  /-- 0xED SBC abs (R242) -/
  | sbcAbs (a : Word)
  /-- 0xEE INC abs (R250) -/
  | incAbs (a : Word)
  /-- 0xEF ISC abs (R371) -/
  | iscAbs (a : Word)
  /-- 0xF0 BEQ offset (R303) -/
  | beq (b : Byte)
  /-- 0xF1 SBC (zp),Y (R242) -/
  | sbcIndy (b : Byte)
  /-- 0xF3 ISC (zp),Y (R371) -/
  | iscIndy (b : Byte)
  /-- 0xF4 NOP zp,X (R362) -/
  | nopZpxF4 (b : Byte)
  /-- 0xF5 SBC zp,X (R242) -/
  | sbcZpx (b : Byte)
  /-- 0xF6 INC zp,X (R250) -/
  | incZpx (b : Byte)
  /-- 0xF7 ISC zp,X (R371) -/
  | iscZpx (b : Byte)
  /-- 0xF9 SBC abs,Y (R242) -/
  | sbcAbsy (a : Word)
  /-- 0xFB ISC abs,Y (R371) -/
  | iscAbsy (a : Word)
  /-- 0xFC NOP abs,X (R362) -/
  | nopAbsxFC (a : Word)
  /-- 0xFD SBC abs,X (R242) -/
  | sbcAbsx (a : Word)
  /-- 0xFE INC abs,X (R250) -/
  | incAbsx (a : Word)
  /-- 0xFF ISC abs,X (R371) -/
  | iscAbsx (a : Word)
  /-- 0x00 BRK (R313) -/
  | brk
  /-- 0x02 JAM (R380) -/
  | jam02
  /-- 0x08 PHP (R231) -/
  | php
  /-- 0x0A ASL A (R290) -/
  | aslAcc
  /-- 0x12 JAM (R380) -/
  | jam12
  /-- 0x18 CLC (R340) -/
  | clc
  /-- 0x1A NOP (R361) -/
  | nopImpl1A
  /-- 0x22 JAM (R380) -/
  | jam22
  /-- 0x28 PLP (R233) -/
  | plp
  /-- 0x2A ROL A (R292) -/
  | rolAcc
  /-- 0x32 JAM (R380) -/
  | jam32
  /-- 0x38 SEC (R341) -/
  | sec
  /-- 0x3A NOP (R361) -/
  | nopImpl3A
  /-- 0x40 RTI (R314) -/
  | rti
  /-- 0x42 JAM (R380) -/
  | jam42
  /-- 0x48 PHA (R230) -/
  | pha
  /-- 0x4A LSR A (R291) -/
  | lsrAcc
  /-- 0x52 JAM (R380) -/
  | jam52
  /-- 0x58 CLI (R342) -/
  | cli
  /-- 0x5A NOP (R361) -/
  | nopImpl5A
  /-- 0x60 RTS (R312) -/
  | rts
  /-- 0x62 JAM (R380) -/
  | jam62
  /-- 0x68 PLA (R232) -/
  | pla
  /-- 0x6A ROR A (R293) -/
  | rorAcc
  /-- 0x72 JAM (R380) -/
  | jam72
  /-- 0x78 SEI (R343) -/
  | sei
  /-- 0x7A NOP (R361) -/
  | nopImpl7A
  /-- 0x88 DEY (R255) -/
  | dey
  /-- 0x8A TXA (R209) -/
  | txa
  /-- 0x92 JAM (R380) -/
  | jam92
  /-- 0x98 TYA (R210) -/
  | tya
  /-- 0x9A TXS (R212) -/
  | txs
  /-- 0xA8 TAY (R208) -/
  | tay
  /-- 0xAA TAX (R207) -/
  | tax
  /-- 0xB2 JAM (R380) -/
  | jamB2
  /-- 0xB8 CLV (R346) -/
  | clv
  /-- 0xBA TSX (R211) -/
  | tsx
  /-- 0xC8 INY (R253) -/
  | iny
  /-- 0xCA DEX (R254) -/
  | dex
  /-- 0xD2 JAM (R380) -/
  | jamD2
  /-- 0xD8 CLD (R344) -/
  | cld
  /-- 0xDA NOP (R361) -/
  | nopImplDA
  /-- 0xE8 INX (R252) -/
  | inx
  /-- 0xEA NOP (R347) -/
  | nop
  /-- 0xF2 JAM (R380) -/
  | jamF2
  /-- 0xF8 SED (R345) -/
  | sed
  /-- 0xFA NOP (R361) -/
  | nopImplFA
deriving DecidableEq, Repr

end Sys2Proof
end

