-- ==== Sys2Proof/Machine/Dispatch.lean ====
section
/-! DEFINITION. One arm for each constructor of Instr, each one direct call of its meaning. -/

namespace Sys2Proof.Machine

/-- `Execute()` (R651) on a fetched instruction: PC still holds PC0; the cost is left in the state (log 8). -/
def exec (i : Instr) (s : State) : Host.Outcome State Fault Refusal :=
  match i with
  | .brk => Sys2Proof.Machine.execBrk s
  | .oraIndx b => Sys2Proof.Machine.execOraIndx b s
  | .jam02 => Sys2Proof.Machine.execJam02 s
  | .sloIndx b => Sys2Proof.Machine.execSloIndx b s
  | .nopZp04 b => Sys2Proof.Machine.execNopZp04 b s
  | .oraZp b => Sys2Proof.Machine.execOraZp b s
  | .aslZp b => Sys2Proof.Machine.execAslZp b s
  | .sloZp b => Sys2Proof.Machine.execSloZp b s
  | .php => Sys2Proof.Machine.execPhp s
  | .oraImm b => Sys2Proof.Machine.execOraImm b s
  | .aslAcc => Sys2Proof.Machine.execAslAcc s
  | .ancImm0B b => Sys2Proof.Machine.execAncImm0B b s
  | .nopAbs a => Sys2Proof.Machine.execNopAbs a s
  | .oraAbs a => Sys2Proof.Machine.execOraAbs a s
  | .aslAbs a => Sys2Proof.Machine.execAslAbs a s
  | .sloAbs a => Sys2Proof.Machine.execSloAbs a s
  | .bpl b => Sys2Proof.Machine.execBpl b s
  | .oraIndy b => Sys2Proof.Machine.execOraIndy b s
  | .jam12 => Sys2Proof.Machine.execJam12 s
  | .sloIndy b => Sys2Proof.Machine.execSloIndy b s
  | .nopZpx14 b => Sys2Proof.Machine.execNopZpx14 b s
  | .oraZpx b => Sys2Proof.Machine.execOraZpx b s
  | .aslZpx b => Sys2Proof.Machine.execAslZpx b s
  | .sloZpx b => Sys2Proof.Machine.execSloZpx b s
  | .clc => Sys2Proof.Machine.execClc s
  | .oraAbsy a => Sys2Proof.Machine.execOraAbsy a s
  | .nopImpl1A => Sys2Proof.Machine.execNopImpl1A s
  | .sloAbsy a => Sys2Proof.Machine.execSloAbsy a s
  | .nopAbsx1C a => Sys2Proof.Machine.execNopAbsx1C a s
  | .oraAbsx a => Sys2Proof.Machine.execOraAbsx a s
  | .aslAbsx a => Sys2Proof.Machine.execAslAbsx a s
  | .sloAbsx a => Sys2Proof.Machine.execSloAbsx a s
  | .jsr a => Sys2Proof.Machine.execJsr a s
  | .andIndx b => Sys2Proof.Machine.execAndIndx b s
  | .jam22 => Sys2Proof.Machine.execJam22 s
  | .rlaIndx b => Sys2Proof.Machine.execRlaIndx b s
  | .bitZp b => Sys2Proof.Machine.execBitZp b s
  | .andZp b => Sys2Proof.Machine.execAndZp b s
  | .rolZp b => Sys2Proof.Machine.execRolZp b s
  | .rlaZp b => Sys2Proof.Machine.execRlaZp b s
  | .plp => Sys2Proof.Machine.execPlp s
  | .andImm b => Sys2Proof.Machine.execAndImm b s
  | .rolAcc => Sys2Proof.Machine.execRolAcc s
  | .ancImm2B b => Sys2Proof.Machine.execAncImm2B b s
  | .bitAbs a => Sys2Proof.Machine.execBitAbs a s
  | .andAbs a => Sys2Proof.Machine.execAndAbs a s
  | .rolAbs a => Sys2Proof.Machine.execRolAbs a s
  | .rlaAbs a => Sys2Proof.Machine.execRlaAbs a s
  | .bmi b => Sys2Proof.Machine.execBmi b s
  | .andIndy b => Sys2Proof.Machine.execAndIndy b s
  | .jam32 => Sys2Proof.Machine.execJam32 s
  | .rlaIndy b => Sys2Proof.Machine.execRlaIndy b s
  | .nopZpx34 b => Sys2Proof.Machine.execNopZpx34 b s
  | .andZpx b => Sys2Proof.Machine.execAndZpx b s
  | .rolZpx b => Sys2Proof.Machine.execRolZpx b s
  | .rlaZpx b => Sys2Proof.Machine.execRlaZpx b s
  | .sec => Sys2Proof.Machine.execSec s
  | .andAbsy a => Sys2Proof.Machine.execAndAbsy a s
  | .nopImpl3A => Sys2Proof.Machine.execNopImpl3A s
  | .rlaAbsy a => Sys2Proof.Machine.execRlaAbsy a s
  | .nopAbsx3C a => Sys2Proof.Machine.execNopAbsx3C a s
  | .andAbsx a => Sys2Proof.Machine.execAndAbsx a s
  | .rolAbsx a => Sys2Proof.Machine.execRolAbsx a s
  | .rlaAbsx a => Sys2Proof.Machine.execRlaAbsx a s
  | .rti => Sys2Proof.Machine.execRti s
  | .eorIndx b => Sys2Proof.Machine.execEorIndx b s
  | .jam42 => Sys2Proof.Machine.execJam42 s
  | .sreIndx b => Sys2Proof.Machine.execSreIndx b s
  | .nopZp44 b => Sys2Proof.Machine.execNopZp44 b s
  | .eorZp b => Sys2Proof.Machine.execEorZp b s
  | .lsrZp b => Sys2Proof.Machine.execLsrZp b s
  | .sreZp b => Sys2Proof.Machine.execSreZp b s
  | .pha => Sys2Proof.Machine.execPha s
  | .eorImm b => Sys2Proof.Machine.execEorImm b s
  | .lsrAcc => Sys2Proof.Machine.execLsrAcc s
  | .alrImm b => Sys2Proof.Machine.execAlrImm b s
  | .jmpAbs a => Sys2Proof.Machine.execJmpAbs a s
  | .eorAbs a => Sys2Proof.Machine.execEorAbs a s
  | .lsrAbs a => Sys2Proof.Machine.execLsrAbs a s
  | .sreAbs a => Sys2Proof.Machine.execSreAbs a s
  | .bvc b => Sys2Proof.Machine.execBvc b s
  | .eorIndy b => Sys2Proof.Machine.execEorIndy b s
  | .jam52 => Sys2Proof.Machine.execJam52 s
  | .sreIndy b => Sys2Proof.Machine.execSreIndy b s
  | .nopZpx54 b => Sys2Proof.Machine.execNopZpx54 b s
  | .eorZpx b => Sys2Proof.Machine.execEorZpx b s
  | .lsrZpx b => Sys2Proof.Machine.execLsrZpx b s
  | .sreZpx b => Sys2Proof.Machine.execSreZpx b s
  | .cli => Sys2Proof.Machine.execCli s
  | .eorAbsy a => Sys2Proof.Machine.execEorAbsy a s
  | .nopImpl5A => Sys2Proof.Machine.execNopImpl5A s
  | .sreAbsy a => Sys2Proof.Machine.execSreAbsy a s
  | .nopAbsx5C a => Sys2Proof.Machine.execNopAbsx5C a s
  | .eorAbsx a => Sys2Proof.Machine.execEorAbsx a s
  | .lsrAbsx a => Sys2Proof.Machine.execLsrAbsx a s
  | .sreAbsx a => Sys2Proof.Machine.execSreAbsx a s
  | .rts => Sys2Proof.Machine.execRts s
  | .adcIndx b => Sys2Proof.Machine.execAdcIndx b s
  | .jam62 => Sys2Proof.Machine.execJam62 s
  | .rraIndx b => Sys2Proof.Machine.execRraIndx b s
  | .nopZp64 b => Sys2Proof.Machine.execNopZp64 b s
  | .adcZp b => Sys2Proof.Machine.execAdcZp b s
  | .rorZp b => Sys2Proof.Machine.execRorZp b s
  | .rraZp b => Sys2Proof.Machine.execRraZp b s
  | .pla => Sys2Proof.Machine.execPla s
  | .adcImm b => Sys2Proof.Machine.execAdcImm b s
  | .rorAcc => Sys2Proof.Machine.execRorAcc s
  | .arrImm b => Sys2Proof.Machine.execArrImm b s
  | .jmpInd a => Sys2Proof.Machine.execJmpInd a s
  | .adcAbs a => Sys2Proof.Machine.execAdcAbs a s
  | .rorAbs a => Sys2Proof.Machine.execRorAbs a s
  | .rraAbs a => Sys2Proof.Machine.execRraAbs a s
  | .bvs b => Sys2Proof.Machine.execBvs b s
  | .adcIndy b => Sys2Proof.Machine.execAdcIndy b s
  | .jam72 => Sys2Proof.Machine.execJam72 s
  | .rraIndy b => Sys2Proof.Machine.execRraIndy b s
  | .nopZpx74 b => Sys2Proof.Machine.execNopZpx74 b s
  | .adcZpx b => Sys2Proof.Machine.execAdcZpx b s
  | .rorZpx b => Sys2Proof.Machine.execRorZpx b s
  | .rraZpx b => Sys2Proof.Machine.execRraZpx b s
  | .sei => Sys2Proof.Machine.execSei s
  | .adcAbsy a => Sys2Proof.Machine.execAdcAbsy a s
  | .nopImpl7A => Sys2Proof.Machine.execNopImpl7A s
  | .rraAbsy a => Sys2Proof.Machine.execRraAbsy a s
  | .nopAbsx7C a => Sys2Proof.Machine.execNopAbsx7C a s
  | .adcAbsx a => Sys2Proof.Machine.execAdcAbsx a s
  | .rorAbsx a => Sys2Proof.Machine.execRorAbsx a s
  | .rraAbsx a => Sys2Proof.Machine.execRraAbsx a s
  | .nopImm80 b => Sys2Proof.Machine.execNopImm80 b s
  | .staIndx b => Sys2Proof.Machine.execStaIndx b s
  | .nopImm82 b => Sys2Proof.Machine.execNopImm82 b s
  | .saxIndx b => Sys2Proof.Machine.execSaxIndx b s
  | .styZp b => Sys2Proof.Machine.execStyZp b s
  | .staZp b => Sys2Proof.Machine.execStaZp b s
  | .stxZp b => Sys2Proof.Machine.execStxZp b s
  | .saxZp b => Sys2Proof.Machine.execSaxZp b s
  | .dey => Sys2Proof.Machine.execDey s
  | .nopImm89 b => Sys2Proof.Machine.execNopImm89 b s
  | .txa => Sys2Proof.Machine.execTxa s
  | .aneImm b => Sys2Proof.Machine.execAneImm b s
  | .styAbs a => Sys2Proof.Machine.execStyAbs a s
  | .staAbs a => Sys2Proof.Machine.execStaAbs a s
  | .stxAbs a => Sys2Proof.Machine.execStxAbs a s
  | .saxAbs a => Sys2Proof.Machine.execSaxAbs a s
  | .bcc b => Sys2Proof.Machine.execBcc b s
  | .staIndy b => Sys2Proof.Machine.execStaIndy b s
  | .jam92 => Sys2Proof.Machine.execJam92 s
  | .shaIndy b => Sys2Proof.Machine.execShaIndy b s
  | .styZpx b => Sys2Proof.Machine.execStyZpx b s
  | .staZpx b => Sys2Proof.Machine.execStaZpx b s
  | .stxZpy b => Sys2Proof.Machine.execStxZpy b s
  | .saxZpy b => Sys2Proof.Machine.execSaxZpy b s
  | .tya => Sys2Proof.Machine.execTya s
  | .staAbsy a => Sys2Proof.Machine.execStaAbsy a s
  | .txs => Sys2Proof.Machine.execTxs s
  | .tasAbsy a => Sys2Proof.Machine.execTasAbsy a s
  | .shyAbsx a => Sys2Proof.Machine.execShyAbsx a s
  | .staAbsx a => Sys2Proof.Machine.execStaAbsx a s
  | .shxAbsy a => Sys2Proof.Machine.execShxAbsy a s
  | .shaAbsy a => Sys2Proof.Machine.execShaAbsy a s
  | .ldyImm b => Sys2Proof.Machine.execLdyImm b s
  | .ldaIndx b => Sys2Proof.Machine.execLdaIndx b s
  | .ldxImm b => Sys2Proof.Machine.execLdxImm b s
  | .laxIndx b => Sys2Proof.Machine.execLaxIndx b s
  | .ldyZp b => Sys2Proof.Machine.execLdyZp b s
  | .ldaZp b => Sys2Proof.Machine.execLdaZp b s
  | .ldxZp b => Sys2Proof.Machine.execLdxZp b s
  | .laxZp b => Sys2Proof.Machine.execLaxZp b s
  | .tay => Sys2Proof.Machine.execTay s
  | .ldaImm b => Sys2Proof.Machine.execLdaImm b s
  | .tax => Sys2Proof.Machine.execTax s
  | .lxaImm b => Sys2Proof.Machine.execLxaImm b s
  | .ldyAbs a => Sys2Proof.Machine.execLdyAbs a s
  | .ldaAbs a => Sys2Proof.Machine.execLdaAbs a s
  | .ldxAbs a => Sys2Proof.Machine.execLdxAbs a s
  | .laxAbs a => Sys2Proof.Machine.execLaxAbs a s
  | .bcs b => Sys2Proof.Machine.execBcs b s
  | .ldaIndy b => Sys2Proof.Machine.execLdaIndy b s
  | .jamB2 => Sys2Proof.Machine.execJamB2 s
  | .laxIndy b => Sys2Proof.Machine.execLaxIndy b s
  | .ldyZpx b => Sys2Proof.Machine.execLdyZpx b s
  | .ldaZpx b => Sys2Proof.Machine.execLdaZpx b s
  | .ldxZpy b => Sys2Proof.Machine.execLdxZpy b s
  | .laxZpy b => Sys2Proof.Machine.execLaxZpy b s
  | .clv => Sys2Proof.Machine.execClv s
  | .ldaAbsy a => Sys2Proof.Machine.execLdaAbsy a s
  | .tsx => Sys2Proof.Machine.execTsx s
  | .lasAbsy a => Sys2Proof.Machine.execLasAbsy a s
  | .ldyAbsx a => Sys2Proof.Machine.execLdyAbsx a s
  | .ldaAbsx a => Sys2Proof.Machine.execLdaAbsx a s
  | .ldxAbsy a => Sys2Proof.Machine.execLdxAbsy a s
  | .laxAbsy a => Sys2Proof.Machine.execLaxAbsy a s
  | .cpyImm b => Sys2Proof.Machine.execCpyImm b s
  | .cmpIndx b => Sys2Proof.Machine.execCmpIndx b s
  | .nopImmC2 b => Sys2Proof.Machine.execNopImmC2 b s
  | .dcpIndx b => Sys2Proof.Machine.execDcpIndx b s
  | .cpyZp b => Sys2Proof.Machine.execCpyZp b s
  | .cmpZp b => Sys2Proof.Machine.execCmpZp b s
  | .decZp b => Sys2Proof.Machine.execDecZp b s
  | .dcpZp b => Sys2Proof.Machine.execDcpZp b s
  | .iny => Sys2Proof.Machine.execIny s
  | .cmpImm b => Sys2Proof.Machine.execCmpImm b s
  | .dex => Sys2Proof.Machine.execDex s
  | .axsImm b => Sys2Proof.Machine.execAxsImm b s
  | .cpyAbs a => Sys2Proof.Machine.execCpyAbs a s
  | .cmpAbs a => Sys2Proof.Machine.execCmpAbs a s
  | .decAbs a => Sys2Proof.Machine.execDecAbs a s
  | .dcpAbs a => Sys2Proof.Machine.execDcpAbs a s
  | .bne b => Sys2Proof.Machine.execBne b s
  | .cmpIndy b => Sys2Proof.Machine.execCmpIndy b s
  | .jamD2 => Sys2Proof.Machine.execJamD2 s
  | .dcpIndy b => Sys2Proof.Machine.execDcpIndy b s
  | .nopZpxD4 b => Sys2Proof.Machine.execNopZpxD4 b s
  | .cmpZpx b => Sys2Proof.Machine.execCmpZpx b s
  | .decZpx b => Sys2Proof.Machine.execDecZpx b s
  | .dcpZpx b => Sys2Proof.Machine.execDcpZpx b s
  | .cld => Sys2Proof.Machine.execCld s
  | .cmpAbsy a => Sys2Proof.Machine.execCmpAbsy a s
  | .nopImplDA => Sys2Proof.Machine.execNopImplDA s
  | .dcpAbsy a => Sys2Proof.Machine.execDcpAbsy a s
  | .nopAbsxDC a => Sys2Proof.Machine.execNopAbsxDC a s
  | .cmpAbsx a => Sys2Proof.Machine.execCmpAbsx a s
  | .decAbsx a => Sys2Proof.Machine.execDecAbsx a s
  | .dcpAbsx a => Sys2Proof.Machine.execDcpAbsx a s
  | .cpxImm b => Sys2Proof.Machine.execCpxImm b s
  | .sbcIndx b => Sys2Proof.Machine.execSbcIndx b s
  | .nopImmE2 b => Sys2Proof.Machine.execNopImmE2 b s
  | .iscIndx b => Sys2Proof.Machine.execIscIndx b s
  | .cpxZp b => Sys2Proof.Machine.execCpxZp b s
  | .sbcZp b => Sys2Proof.Machine.execSbcZp b s
  | .incZp b => Sys2Proof.Machine.execIncZp b s
  | .iscZp b => Sys2Proof.Machine.execIscZp b s
  | .inx => Sys2Proof.Machine.execInx s
  | .sbcImm b => Sys2Proof.Machine.execSbcImm b s
  | .nop => Sys2Proof.Machine.execNop s
  | .sbcImmEB b => Sys2Proof.Machine.execSbcImmEB b s
  | .cpxAbs a => Sys2Proof.Machine.execCpxAbs a s
  | .sbcAbs a => Sys2Proof.Machine.execSbcAbs a s
  | .incAbs a => Sys2Proof.Machine.execIncAbs a s
  | .iscAbs a => Sys2Proof.Machine.execIscAbs a s
  | .beq b => Sys2Proof.Machine.execBeq b s
  | .sbcIndy b => Sys2Proof.Machine.execSbcIndy b s
  | .jamF2 => Sys2Proof.Machine.execJamF2 s
  | .iscIndy b => Sys2Proof.Machine.execIscIndy b s
  | .nopZpxF4 b => Sys2Proof.Machine.execNopZpxF4 b s
  | .sbcZpx b => Sys2Proof.Machine.execSbcZpx b s
  | .incZpx b => Sys2Proof.Machine.execIncZpx b s
  | .iscZpx b => Sys2Proof.Machine.execIscZpx b s
  | .sed => Sys2Proof.Machine.execSed s
  | .sbcAbsy a => Sys2Proof.Machine.execSbcAbsy a s
  | .nopImplFA => Sys2Proof.Machine.execNopImplFA s
  | .iscAbsy a => Sys2Proof.Machine.execIscAbsy a s
  | .nopAbsxFC a => Sys2Proof.Machine.execNopAbsxFC a s
  | .sbcAbsx a => Sys2Proof.Machine.execSbcAbsx a s
  | .incAbsx a => Sys2Proof.Machine.execIncAbsx a s
  | .iscAbsx a => Sys2Proof.Machine.execIscAbsx a s

end Sys2Proof.Machine
end

