-- ==== Sys2Proof/WellFormed.lean ====
section
/-! DEFINITION. What is checked of the terms a model is given. An instruction's operand is a byte or a 16-bit word by its type
and every byte value is a complete opcode (R170, R191), so no `Instr` is ill formed and nothing of it is left to check; the
checks that can fail are those of a parameter set (R10), of an image's first bytes (R601) and of a branch target (R192). -/

namespace Sys2Proof

/-- Every instruction is well formed: its types carry all that R170 and R173 ask. -/
def Instr.wf (_i : Instr) : Bool := true

/-- `RESET_SP_DECREMENT` is 0 or 3 (R10, D8). -/
def Params.resetSpOk (p : Params) : Bool := p.resetSpDecrement == 0 || p.resetSpDecrement == 3

/-- `CHR_HEADER_UNIT_KIB` is 4 or 8 (R10, D25). -/
def Params.chrUnitOk (p : Params) : Bool := p.chrHeaderUnitKib == 4 || p.chrHeaderUnitKib == 8

/-- The cycle table has an entry for every opcode (R185, D39). -/
def Params.cyclesOk (p : Params) : Bool := p.cycleTable.length == 256

/-- No fill is longer than the storage it fills (R50, R59 to R61, R74). -/
def Params.fillsOk (p : Params) : Bool :=
  decide (p.ramFill.length ≤ 2048) && decide (p.vramFill.length ≤ 4096) && decide (p.oamFill.length ≤ 256) &&
    decide (p.paletteFill.length ≤ 32) && decide (p.prgRamFill.length ≤ 8192) && decide (p.chrRamFill.length ≤ 8192)

/-- A parameter set the spec allows (R10). -/
def Params.wf (p : Params) : Bool := p.resetSpOk && p.chrUnitOk && p.cyclesOk && p.fillsOk

/-- The magic signature an image must begin with (R600, R601). -/
def imageMagicOk (img : List Byte) : Bool := img.take 4 == [0x4E, 0x45, 0x53, 0x1A]

/-- Is a branch target within reach of the next instruction at `pcn` (R192: an assembler must refuse the others)? -/
def branchReachable (pcn target : Word) : Bool := (target - pcn).toInt ≤ 127 && -128 ≤ (target - pcn).toInt

end Sys2Proof
end

