-- ==== Sys2Proof/Decode.lean ====
section
/-! DEFINITION. The decoder, written from the opcode map of R186 (30_encoding.md), and after it the encoder, written from the
same map and the formats of R170 and R173. Every byte value is a complete opcode (R191), so decoding refuses only an input that
ends before the instruction does, and says so by name. -/

namespace Sys2Proof

/-- One cell of the opcode map: mode, class and the instruction made of the operand bytes `b1` and `b2`. -/
structure OpcodeRow where
  mode : Mode
  cls : OpcodeClass
  build : Byte → Byte → Instr

/-- Length in bytes by mode (R172). -/
def Mode.length : Mode → Nat
  | .impl => 1
  | .acc => 1
  | .imm => 2
  | .zp => 2
  | .zpx => 2
  | .zpy => 2
  | .rel => 2
  | .abs => 3
  | .absx => 3
  | .absy => 3
  | .ind => 3
  | .indx => 2
  | .indy => 2

/-- Opcodes 0x00 to 0x0F (R186). -/
def opcodeLine0 : List OpcodeRow :=
  [⟨.impl, .official, fun _ _ => .brk⟩,
   ⟨.indx, .official, fun b _ => .oraIndx b⟩,
   ⟨.impl, .jam, fun _ _ => .jam02⟩,
   ⟨.indx, .unofficial, fun b _ => .sloIndx b⟩,
   ⟨.zp, .unofficial, fun b _ => .nopZp04 b⟩,
   ⟨.zp, .official, fun b _ => .oraZp b⟩,
   ⟨.zp, .official, fun b _ => .aslZp b⟩,
   ⟨.zp, .unofficial, fun b _ => .sloZp b⟩,
   ⟨.impl, .official, fun _ _ => .php⟩,
   ⟨.imm, .official, fun b _ => .oraImm b⟩,
   ⟨.acc, .official, fun _ _ => .aslAcc⟩,
   ⟨.imm, .unofficial, fun b _ => .ancImm0B b⟩,
   ⟨.abs, .unofficial, fun b1 b2 => .nopAbs (Machine.mkWord b2 b1)⟩,
   ⟨.abs, .official, fun b1 b2 => .oraAbs (Machine.mkWord b2 b1)⟩,
   ⟨.abs, .official, fun b1 b2 => .aslAbs (Machine.mkWord b2 b1)⟩,
   ⟨.abs, .unofficial, fun b1 b2 => .sloAbs (Machine.mkWord b2 b1)⟩]

/-- Opcodes 0x10 to 0x1F (R186). -/
def opcodeLine1 : List OpcodeRow :=
  [⟨.rel, .official, fun b _ => .bpl b⟩,
   ⟨.indy, .official, fun b _ => .oraIndy b⟩,
   ⟨.impl, .jam, fun _ _ => .jam12⟩,
   ⟨.indy, .unofficial, fun b _ => .sloIndy b⟩,
   ⟨.zpx, .unofficial, fun b _ => .nopZpx14 b⟩,
   ⟨.zpx, .official, fun b _ => .oraZpx b⟩,
   ⟨.zpx, .official, fun b _ => .aslZpx b⟩,
   ⟨.zpx, .unofficial, fun b _ => .sloZpx b⟩,
   ⟨.impl, .official, fun _ _ => .clc⟩,
   ⟨.absy, .official, fun b1 b2 => .oraAbsy (Machine.mkWord b2 b1)⟩,
   ⟨.impl, .unofficial, fun _ _ => .nopImpl1A⟩,
   ⟨.absy, .unofficial, fun b1 b2 => .sloAbsy (Machine.mkWord b2 b1)⟩,
   ⟨.absx, .unofficial, fun b1 b2 => .nopAbsx1C (Machine.mkWord b2 b1)⟩,
   ⟨.absx, .official, fun b1 b2 => .oraAbsx (Machine.mkWord b2 b1)⟩,
   ⟨.absx, .official, fun b1 b2 => .aslAbsx (Machine.mkWord b2 b1)⟩,
   ⟨.absx, .unofficial, fun b1 b2 => .sloAbsx (Machine.mkWord b2 b1)⟩]

/-- Opcodes 0x20 to 0x2F (R186). -/
def opcodeLine2 : List OpcodeRow :=
  [⟨.abs, .official, fun b1 b2 => .jsr (Machine.mkWord b2 b1)⟩,
   ⟨.indx, .official, fun b _ => .andIndx b⟩,
   ⟨.impl, .jam, fun _ _ => .jam22⟩,
   ⟨.indx, .unofficial, fun b _ => .rlaIndx b⟩,
   ⟨.zp, .official, fun b _ => .bitZp b⟩,
   ⟨.zp, .official, fun b _ => .andZp b⟩,
   ⟨.zp, .official, fun b _ => .rolZp b⟩,
   ⟨.zp, .unofficial, fun b _ => .rlaZp b⟩,
   ⟨.impl, .official, fun _ _ => .plp⟩,
   ⟨.imm, .official, fun b _ => .andImm b⟩,
   ⟨.acc, .official, fun _ _ => .rolAcc⟩,
   ⟨.imm, .unofficial, fun b _ => .ancImm2B b⟩,
   ⟨.abs, .official, fun b1 b2 => .bitAbs (Machine.mkWord b2 b1)⟩,
   ⟨.abs, .official, fun b1 b2 => .andAbs (Machine.mkWord b2 b1)⟩,
   ⟨.abs, .official, fun b1 b2 => .rolAbs (Machine.mkWord b2 b1)⟩,
   ⟨.abs, .unofficial, fun b1 b2 => .rlaAbs (Machine.mkWord b2 b1)⟩]

/-- Opcodes 0x30 to 0x3F (R186). -/
def opcodeLine3 : List OpcodeRow :=
  [⟨.rel, .official, fun b _ => .bmi b⟩,
   ⟨.indy, .official, fun b _ => .andIndy b⟩,
   ⟨.impl, .jam, fun _ _ => .jam32⟩,
   ⟨.indy, .unofficial, fun b _ => .rlaIndy b⟩,
   ⟨.zpx, .unofficial, fun b _ => .nopZpx34 b⟩,
   ⟨.zpx, .official, fun b _ => .andZpx b⟩,
   ⟨.zpx, .official, fun b _ => .rolZpx b⟩,
   ⟨.zpx, .unofficial, fun b _ => .rlaZpx b⟩,
   ⟨.impl, .official, fun _ _ => .sec⟩,
   ⟨.absy, .official, fun b1 b2 => .andAbsy (Machine.mkWord b2 b1)⟩,
   ⟨.impl, .unofficial, fun _ _ => .nopImpl3A⟩,
   ⟨.absy, .unofficial, fun b1 b2 => .rlaAbsy (Machine.mkWord b2 b1)⟩,
   ⟨.absx, .unofficial, fun b1 b2 => .nopAbsx3C (Machine.mkWord b2 b1)⟩,
   ⟨.absx, .official, fun b1 b2 => .andAbsx (Machine.mkWord b2 b1)⟩,
   ⟨.absx, .official, fun b1 b2 => .rolAbsx (Machine.mkWord b2 b1)⟩,
   ⟨.absx, .unofficial, fun b1 b2 => .rlaAbsx (Machine.mkWord b2 b1)⟩]

/-- Opcodes 0x40 to 0x4F (R186). -/
def opcodeLine4 : List OpcodeRow :=
  [⟨.impl, .official, fun _ _ => .rti⟩,
   ⟨.indx, .official, fun b _ => .eorIndx b⟩,
   ⟨.impl, .jam, fun _ _ => .jam42⟩,
   ⟨.indx, .unofficial, fun b _ => .sreIndx b⟩,
   ⟨.zp, .unofficial, fun b _ => .nopZp44 b⟩,
   ⟨.zp, .official, fun b _ => .eorZp b⟩,
   ⟨.zp, .official, fun b _ => .lsrZp b⟩,
   ⟨.zp, .unofficial, fun b _ => .sreZp b⟩,
   ⟨.impl, .official, fun _ _ => .pha⟩,
   ⟨.imm, .official, fun b _ => .eorImm b⟩,
   ⟨.acc, .official, fun _ _ => .lsrAcc⟩,
   ⟨.imm, .unofficial, fun b _ => .alrImm b⟩,
   ⟨.abs, .official, fun b1 b2 => .jmpAbs (Machine.mkWord b2 b1)⟩,
   ⟨.abs, .official, fun b1 b2 => .eorAbs (Machine.mkWord b2 b1)⟩,
   ⟨.abs, .official, fun b1 b2 => .lsrAbs (Machine.mkWord b2 b1)⟩,
   ⟨.abs, .unofficial, fun b1 b2 => .sreAbs (Machine.mkWord b2 b1)⟩]

/-- Opcodes 0x50 to 0x5F (R186). -/
def opcodeLine5 : List OpcodeRow :=
  [⟨.rel, .official, fun b _ => .bvc b⟩,
   ⟨.indy, .official, fun b _ => .eorIndy b⟩,
   ⟨.impl, .jam, fun _ _ => .jam52⟩,
   ⟨.indy, .unofficial, fun b _ => .sreIndy b⟩,
   ⟨.zpx, .unofficial, fun b _ => .nopZpx54 b⟩,
   ⟨.zpx, .official, fun b _ => .eorZpx b⟩,
   ⟨.zpx, .official, fun b _ => .lsrZpx b⟩,
   ⟨.zpx, .unofficial, fun b _ => .sreZpx b⟩,
   ⟨.impl, .official, fun _ _ => .cli⟩,
   ⟨.absy, .official, fun b1 b2 => .eorAbsy (Machine.mkWord b2 b1)⟩,
   ⟨.impl, .unofficial, fun _ _ => .nopImpl5A⟩,
   ⟨.absy, .unofficial, fun b1 b2 => .sreAbsy (Machine.mkWord b2 b1)⟩,
   ⟨.absx, .unofficial, fun b1 b2 => .nopAbsx5C (Machine.mkWord b2 b1)⟩,
   ⟨.absx, .official, fun b1 b2 => .eorAbsx (Machine.mkWord b2 b1)⟩,
   ⟨.absx, .official, fun b1 b2 => .lsrAbsx (Machine.mkWord b2 b1)⟩,
   ⟨.absx, .unofficial, fun b1 b2 => .sreAbsx (Machine.mkWord b2 b1)⟩]

/-- Opcodes 0x60 to 0x6F (R186). -/
def opcodeLine6 : List OpcodeRow :=
  [⟨.impl, .official, fun _ _ => .rts⟩,
   ⟨.indx, .official, fun b _ => .adcIndx b⟩,
   ⟨.impl, .jam, fun _ _ => .jam62⟩,
   ⟨.indx, .unofficial, fun b _ => .rraIndx b⟩,
   ⟨.zp, .unofficial, fun b _ => .nopZp64 b⟩,
   ⟨.zp, .official, fun b _ => .adcZp b⟩,
   ⟨.zp, .official, fun b _ => .rorZp b⟩,
   ⟨.zp, .unofficial, fun b _ => .rraZp b⟩,
   ⟨.impl, .official, fun _ _ => .pla⟩,
   ⟨.imm, .official, fun b _ => .adcImm b⟩,
   ⟨.acc, .official, fun _ _ => .rorAcc⟩,
   ⟨.imm, .unofficial, fun b _ => .arrImm b⟩,
   ⟨.ind, .official, fun b1 b2 => .jmpInd (Machine.mkWord b2 b1)⟩,
   ⟨.abs, .official, fun b1 b2 => .adcAbs (Machine.mkWord b2 b1)⟩,
   ⟨.abs, .official, fun b1 b2 => .rorAbs (Machine.mkWord b2 b1)⟩,
   ⟨.abs, .unofficial, fun b1 b2 => .rraAbs (Machine.mkWord b2 b1)⟩]

/-- Opcodes 0x70 to 0x7F (R186). -/
def opcodeLine7 : List OpcodeRow :=
  [⟨.rel, .official, fun b _ => .bvs b⟩,
   ⟨.indy, .official, fun b _ => .adcIndy b⟩,
   ⟨.impl, .jam, fun _ _ => .jam72⟩,
   ⟨.indy, .unofficial, fun b _ => .rraIndy b⟩,
   ⟨.zpx, .unofficial, fun b _ => .nopZpx74 b⟩,
   ⟨.zpx, .official, fun b _ => .adcZpx b⟩,
   ⟨.zpx, .official, fun b _ => .rorZpx b⟩,
   ⟨.zpx, .unofficial, fun b _ => .rraZpx b⟩,
   ⟨.impl, .official, fun _ _ => .sei⟩,
   ⟨.absy, .official, fun b1 b2 => .adcAbsy (Machine.mkWord b2 b1)⟩,
   ⟨.impl, .unofficial, fun _ _ => .nopImpl7A⟩,
   ⟨.absy, .unofficial, fun b1 b2 => .rraAbsy (Machine.mkWord b2 b1)⟩,
   ⟨.absx, .unofficial, fun b1 b2 => .nopAbsx7C (Machine.mkWord b2 b1)⟩,
   ⟨.absx, .official, fun b1 b2 => .adcAbsx (Machine.mkWord b2 b1)⟩,
   ⟨.absx, .official, fun b1 b2 => .rorAbsx (Machine.mkWord b2 b1)⟩,
   ⟨.absx, .unofficial, fun b1 b2 => .rraAbsx (Machine.mkWord b2 b1)⟩]

/-- Opcodes 0x80 to 0x8F (R186). -/
def opcodeLine8 : List OpcodeRow :=
  [⟨.imm, .unofficial, fun b _ => .nopImm80 b⟩,
   ⟨.indx, .official, fun b _ => .staIndx b⟩,
   ⟨.imm, .unofficial, fun b _ => .nopImm82 b⟩,
   ⟨.indx, .unofficial, fun b _ => .saxIndx b⟩,
   ⟨.zp, .official, fun b _ => .styZp b⟩,
   ⟨.zp, .official, fun b _ => .staZp b⟩,
   ⟨.zp, .official, fun b _ => .stxZp b⟩,
   ⟨.zp, .unofficial, fun b _ => .saxZp b⟩,
   ⟨.impl, .official, fun _ _ => .dey⟩,
   ⟨.imm, .unofficial, fun b _ => .nopImm89 b⟩,
   ⟨.impl, .official, fun _ _ => .txa⟩,
   ⟨.imm, .unstable, fun b _ => .aneImm b⟩,
   ⟨.abs, .official, fun b1 b2 => .styAbs (Machine.mkWord b2 b1)⟩,
   ⟨.abs, .official, fun b1 b2 => .staAbs (Machine.mkWord b2 b1)⟩,
   ⟨.abs, .official, fun b1 b2 => .stxAbs (Machine.mkWord b2 b1)⟩,
   ⟨.abs, .unofficial, fun b1 b2 => .saxAbs (Machine.mkWord b2 b1)⟩]

/-- Opcodes 0x90 to 0x9F (R186). -/
def opcodeLine9 : List OpcodeRow :=
  [⟨.rel, .official, fun b _ => .bcc b⟩,
   ⟨.indy, .official, fun b _ => .staIndy b⟩,
   ⟨.impl, .jam, fun _ _ => .jam92⟩,
   ⟨.indy, .unstable, fun b _ => .shaIndy b⟩,
   ⟨.zpx, .official, fun b _ => .styZpx b⟩,
   ⟨.zpx, .official, fun b _ => .staZpx b⟩,
   ⟨.zpy, .official, fun b _ => .stxZpy b⟩,
   ⟨.zpy, .unofficial, fun b _ => .saxZpy b⟩,
   ⟨.impl, .official, fun _ _ => .tya⟩,
   ⟨.absy, .official, fun b1 b2 => .staAbsy (Machine.mkWord b2 b1)⟩,
   ⟨.impl, .official, fun _ _ => .txs⟩,
   ⟨.absy, .unstable, fun b1 b2 => .tasAbsy (Machine.mkWord b2 b1)⟩,
   ⟨.absx, .unstable, fun b1 b2 => .shyAbsx (Machine.mkWord b2 b1)⟩,
   ⟨.absx, .official, fun b1 b2 => .staAbsx (Machine.mkWord b2 b1)⟩,
   ⟨.absy, .unstable, fun b1 b2 => .shxAbsy (Machine.mkWord b2 b1)⟩,
   ⟨.absy, .unstable, fun b1 b2 => .shaAbsy (Machine.mkWord b2 b1)⟩]

/-- Opcodes 0xA0 to 0xAF (R186). -/
def opcodeLineA : List OpcodeRow :=
  [⟨.imm, .official, fun b _ => .ldyImm b⟩,
   ⟨.indx, .official, fun b _ => .ldaIndx b⟩,
   ⟨.imm, .official, fun b _ => .ldxImm b⟩,
   ⟨.indx, .unofficial, fun b _ => .laxIndx b⟩,
   ⟨.zp, .official, fun b _ => .ldyZp b⟩,
   ⟨.zp, .official, fun b _ => .ldaZp b⟩,
   ⟨.zp, .official, fun b _ => .ldxZp b⟩,
   ⟨.zp, .unofficial, fun b _ => .laxZp b⟩,
   ⟨.impl, .official, fun _ _ => .tay⟩,
   ⟨.imm, .official, fun b _ => .ldaImm b⟩,
   ⟨.impl, .official, fun _ _ => .tax⟩,
   ⟨.imm, .unstable, fun b _ => .lxaImm b⟩,
   ⟨.abs, .official, fun b1 b2 => .ldyAbs (Machine.mkWord b2 b1)⟩,
   ⟨.abs, .official, fun b1 b2 => .ldaAbs (Machine.mkWord b2 b1)⟩,
   ⟨.abs, .official, fun b1 b2 => .ldxAbs (Machine.mkWord b2 b1)⟩,
   ⟨.abs, .unofficial, fun b1 b2 => .laxAbs (Machine.mkWord b2 b1)⟩]

/-- Opcodes 0xB0 to 0xBF (R186). -/
def opcodeLineB : List OpcodeRow :=
  [⟨.rel, .official, fun b _ => .bcs b⟩,
   ⟨.indy, .official, fun b _ => .ldaIndy b⟩,
   ⟨.impl, .jam, fun _ _ => .jamB2⟩,
   ⟨.indy, .unofficial, fun b _ => .laxIndy b⟩,
   ⟨.zpx, .official, fun b _ => .ldyZpx b⟩,
   ⟨.zpx, .official, fun b _ => .ldaZpx b⟩,
   ⟨.zpy, .official, fun b _ => .ldxZpy b⟩,
   ⟨.zpy, .unofficial, fun b _ => .laxZpy b⟩,
   ⟨.impl, .official, fun _ _ => .clv⟩,
   ⟨.absy, .official, fun b1 b2 => .ldaAbsy (Machine.mkWord b2 b1)⟩,
   ⟨.impl, .official, fun _ _ => .tsx⟩,
   ⟨.absy, .unstable, fun b1 b2 => .lasAbsy (Machine.mkWord b2 b1)⟩,
   ⟨.absx, .official, fun b1 b2 => .ldyAbsx (Machine.mkWord b2 b1)⟩,
   ⟨.absx, .official, fun b1 b2 => .ldaAbsx (Machine.mkWord b2 b1)⟩,
   ⟨.absy, .official, fun b1 b2 => .ldxAbsy (Machine.mkWord b2 b1)⟩,
   ⟨.absy, .unofficial, fun b1 b2 => .laxAbsy (Machine.mkWord b2 b1)⟩]

/-- Opcodes 0xC0 to 0xCF (R186). -/
def opcodeLineC : List OpcodeRow :=
  [⟨.imm, .official, fun b _ => .cpyImm b⟩,
   ⟨.indx, .official, fun b _ => .cmpIndx b⟩,
   ⟨.imm, .unofficial, fun b _ => .nopImmC2 b⟩,
   ⟨.indx, .unofficial, fun b _ => .dcpIndx b⟩,
   ⟨.zp, .official, fun b _ => .cpyZp b⟩,
   ⟨.zp, .official, fun b _ => .cmpZp b⟩,
   ⟨.zp, .official, fun b _ => .decZp b⟩,
   ⟨.zp, .unofficial, fun b _ => .dcpZp b⟩,
   ⟨.impl, .official, fun _ _ => .iny⟩,
   ⟨.imm, .official, fun b _ => .cmpImm b⟩,
   ⟨.impl, .official, fun _ _ => .dex⟩,
   ⟨.imm, .unofficial, fun b _ => .axsImm b⟩,
   ⟨.abs, .official, fun b1 b2 => .cpyAbs (Machine.mkWord b2 b1)⟩,
   ⟨.abs, .official, fun b1 b2 => .cmpAbs (Machine.mkWord b2 b1)⟩,
   ⟨.abs, .official, fun b1 b2 => .decAbs (Machine.mkWord b2 b1)⟩,
   ⟨.abs, .unofficial, fun b1 b2 => .dcpAbs (Machine.mkWord b2 b1)⟩]

/-- Opcodes 0xD0 to 0xDF (R186). -/
def opcodeLineD : List OpcodeRow :=
  [⟨.rel, .official, fun b _ => .bne b⟩,
   ⟨.indy, .official, fun b _ => .cmpIndy b⟩,
   ⟨.impl, .jam, fun _ _ => .jamD2⟩,
   ⟨.indy, .unofficial, fun b _ => .dcpIndy b⟩,
   ⟨.zpx, .unofficial, fun b _ => .nopZpxD4 b⟩,
   ⟨.zpx, .official, fun b _ => .cmpZpx b⟩,
   ⟨.zpx, .official, fun b _ => .decZpx b⟩,
   ⟨.zpx, .unofficial, fun b _ => .dcpZpx b⟩,
   ⟨.impl, .official, fun _ _ => .cld⟩,
   ⟨.absy, .official, fun b1 b2 => .cmpAbsy (Machine.mkWord b2 b1)⟩,
   ⟨.impl, .unofficial, fun _ _ => .nopImplDA⟩,
   ⟨.absy, .unofficial, fun b1 b2 => .dcpAbsy (Machine.mkWord b2 b1)⟩,
   ⟨.absx, .unofficial, fun b1 b2 => .nopAbsxDC (Machine.mkWord b2 b1)⟩,
   ⟨.absx, .official, fun b1 b2 => .cmpAbsx (Machine.mkWord b2 b1)⟩,
   ⟨.absx, .official, fun b1 b2 => .decAbsx (Machine.mkWord b2 b1)⟩,
   ⟨.absx, .unofficial, fun b1 b2 => .dcpAbsx (Machine.mkWord b2 b1)⟩]

/-- Opcodes 0xE0 to 0xEF (R186). -/
def opcodeLineE : List OpcodeRow :=
  [⟨.imm, .official, fun b _ => .cpxImm b⟩,
   ⟨.indx, .official, fun b _ => .sbcIndx b⟩,
   ⟨.imm, .unofficial, fun b _ => .nopImmE2 b⟩,
   ⟨.indx, .unofficial, fun b _ => .iscIndx b⟩,
   ⟨.zp, .official, fun b _ => .cpxZp b⟩,
   ⟨.zp, .official, fun b _ => .sbcZp b⟩,
   ⟨.zp, .official, fun b _ => .incZp b⟩,
   ⟨.zp, .unofficial, fun b _ => .iscZp b⟩,
   ⟨.impl, .official, fun _ _ => .inx⟩,
   ⟨.imm, .official, fun b _ => .sbcImm b⟩,
   ⟨.impl, .official, fun _ _ => .nop⟩,
   ⟨.imm, .unofficial, fun b _ => .sbcImmEB b⟩,
   ⟨.abs, .official, fun b1 b2 => .cpxAbs (Machine.mkWord b2 b1)⟩,
   ⟨.abs, .official, fun b1 b2 => .sbcAbs (Machine.mkWord b2 b1)⟩,
   ⟨.abs, .official, fun b1 b2 => .incAbs (Machine.mkWord b2 b1)⟩,
   ⟨.abs, .unofficial, fun b1 b2 => .iscAbs (Machine.mkWord b2 b1)⟩]

/-- Opcodes 0xF0 to 0xFF (R186). -/
def opcodeLineF : List OpcodeRow :=
  [⟨.rel, .official, fun b _ => .beq b⟩,
   ⟨.indy, .official, fun b _ => .sbcIndy b⟩,
   ⟨.impl, .jam, fun _ _ => .jamF2⟩,
   ⟨.indy, .unofficial, fun b _ => .iscIndy b⟩,
   ⟨.zpx, .unofficial, fun b _ => .nopZpxF4 b⟩,
   ⟨.zpx, .official, fun b _ => .sbcZpx b⟩,
   ⟨.zpx, .official, fun b _ => .incZpx b⟩,
   ⟨.zpx, .unofficial, fun b _ => .iscZpx b⟩,
   ⟨.impl, .official, fun _ _ => .sed⟩,
   ⟨.absy, .official, fun b1 b2 => .sbcAbsy (Machine.mkWord b2 b1)⟩,
   ⟨.impl, .unofficial, fun _ _ => .nopImplFA⟩,
   ⟨.absy, .unofficial, fun b1 b2 => .iscAbsy (Machine.mkWord b2 b1)⟩,
   ⟨.absx, .unofficial, fun b1 b2 => .nopAbsxFC (Machine.mkWord b2 b1)⟩,
   ⟨.absx, .official, fun b1 b2 => .sbcAbsx (Machine.mkWord b2 b1)⟩,
   ⟨.absx, .official, fun b1 b2 => .incAbsx (Machine.mkWord b2 b1)⟩,
   ⟨.absx, .unofficial, fun b1 b2 => .iscAbsx (Machine.mkWord b2 b1)⟩]

/-- The opcode map, one line for each high nibble (R186). -/
def opcodeMap : List (List OpcodeRow) :=
  [opcodeLine0, opcodeLine1, opcodeLine2, opcodeLine3, opcodeLine4, opcodeLine5, opcodeLine6, opcodeLine7,
   opcodeLine8, opcodeLine9, opcodeLineA, opcodeLineB, opcodeLineC, opcodeLineD, opcodeLineE, opcodeLineF]

/-- The cell of an opcode byte. The map has 16 lines of 16 cells, so the default is never taken. -/
def opcodeRow (op : Byte) : OpcodeRow :=
  (opcodeMap.getD (op.toNat / 16) []).getD (op.toNat % 16) ⟨.impl, .official, fun _ _ => .brk⟩

/-- Length in bytes of the instruction an opcode byte begins (R172, R191). -/
def opcodeLength (op : Byte) : Nat := (opcodeRow op).mode.length

/-- The class of an opcode byte (R186). -/
def opcodeClass (op : Byte) : OpcodeClass := (opcodeRow op).cls

/-- The instruction of an opcode byte and its operand bytes; a byte past its length is not looked at. -/
def decodeOp (op b1 b2 : Byte) : Instr := (opcodeRow op).build b1 b2

/-- Why a byte sequence holds no instruction: it ends too early. -/
inductive DecodeError where
  | noOpcode
  | operandMissing (opcode : Byte)
deriving DecidableEq, Repr

/-- Reads one instruction from the front of a byte sequence; answers it and the bytes after it (R103, R191). -/
def decode : List Byte → Except DecodeError (Instr × List Byte)
  | [] => .error .noOpcode
  | op :: rest =>
    match opcodeLength op, rest with
    | 1, _ => .ok (decodeOp op 0 0, rest)
    | 2, b1 :: more => .ok (decodeOp op b1 0, more)
    | _, b1 :: b2 :: more => .ok (decodeOp op b1 b2, more)
    | _, _ => .error (.operandMissing op)

/-- The bytes of an instruction, the opcode first, a 16-bit operand low byte first (R170, R173). -/
def encode : Instr → List Byte
  | .brk => [0x00]
  | .oraIndx b => [0x01, b]
  | .jam02 => [0x02]
  | .sloIndx b => [0x03, b]
  | .nopZp04 b => [0x04, b]
  | .oraZp b => [0x05, b]
  | .aslZp b => [0x06, b]
  | .sloZp b => [0x07, b]
  | .php => [0x08]
  | .oraImm b => [0x09, b]
  | .aslAcc => [0x0A]
  | .ancImm0B b => [0x0B, b]
  | .nopAbs a => [0x0C, Machine.loByte a, Machine.hiByte a]
  | .oraAbs a => [0x0D, Machine.loByte a, Machine.hiByte a]
  | .aslAbs a => [0x0E, Machine.loByte a, Machine.hiByte a]
  | .sloAbs a => [0x0F, Machine.loByte a, Machine.hiByte a]
  | .bpl b => [0x10, b]
  | .oraIndy b => [0x11, b]
  | .jam12 => [0x12]
  | .sloIndy b => [0x13, b]
  | .nopZpx14 b => [0x14, b]
  | .oraZpx b => [0x15, b]
  | .aslZpx b => [0x16, b]
  | .sloZpx b => [0x17, b]
  | .clc => [0x18]
  | .oraAbsy a => [0x19, Machine.loByte a, Machine.hiByte a]
  | .nopImpl1A => [0x1A]
  | .sloAbsy a => [0x1B, Machine.loByte a, Machine.hiByte a]
  | .nopAbsx1C a => [0x1C, Machine.loByte a, Machine.hiByte a]
  | .oraAbsx a => [0x1D, Machine.loByte a, Machine.hiByte a]
  | .aslAbsx a => [0x1E, Machine.loByte a, Machine.hiByte a]
  | .sloAbsx a => [0x1F, Machine.loByte a, Machine.hiByte a]
  | .jsr a => [0x20, Machine.loByte a, Machine.hiByte a]
  | .andIndx b => [0x21, b]
  | .jam22 => [0x22]
  | .rlaIndx b => [0x23, b]
  | .bitZp b => [0x24, b]
  | .andZp b => [0x25, b]
  | .rolZp b => [0x26, b]
  | .rlaZp b => [0x27, b]
  | .plp => [0x28]
  | .andImm b => [0x29, b]
  | .rolAcc => [0x2A]
  | .ancImm2B b => [0x2B, b]
  | .bitAbs a => [0x2C, Machine.loByte a, Machine.hiByte a]
  | .andAbs a => [0x2D, Machine.loByte a, Machine.hiByte a]
  | .rolAbs a => [0x2E, Machine.loByte a, Machine.hiByte a]
  | .rlaAbs a => [0x2F, Machine.loByte a, Machine.hiByte a]
  | .bmi b => [0x30, b]
  | .andIndy b => [0x31, b]
  | .jam32 => [0x32]
  | .rlaIndy b => [0x33, b]
  | .nopZpx34 b => [0x34, b]
  | .andZpx b => [0x35, b]
  | .rolZpx b => [0x36, b]
  | .rlaZpx b => [0x37, b]
  | .sec => [0x38]
  | .andAbsy a => [0x39, Machine.loByte a, Machine.hiByte a]
  | .nopImpl3A => [0x3A]
  | .rlaAbsy a => [0x3B, Machine.loByte a, Machine.hiByte a]
  | .nopAbsx3C a => [0x3C, Machine.loByte a, Machine.hiByte a]
  | .andAbsx a => [0x3D, Machine.loByte a, Machine.hiByte a]
  | .rolAbsx a => [0x3E, Machine.loByte a, Machine.hiByte a]
  | .rlaAbsx a => [0x3F, Machine.loByte a, Machine.hiByte a]
  | .rti => [0x40]
  | .eorIndx b => [0x41, b]
  | .jam42 => [0x42]
  | .sreIndx b => [0x43, b]
  | .nopZp44 b => [0x44, b]
  | .eorZp b => [0x45, b]
  | .lsrZp b => [0x46, b]
  | .sreZp b => [0x47, b]
  | .pha => [0x48]
  | .eorImm b => [0x49, b]
  | .lsrAcc => [0x4A]
  | .alrImm b => [0x4B, b]
  | .jmpAbs a => [0x4C, Machine.loByte a, Machine.hiByte a]
  | .eorAbs a => [0x4D, Machine.loByte a, Machine.hiByte a]
  | .lsrAbs a => [0x4E, Machine.loByte a, Machine.hiByte a]
  | .sreAbs a => [0x4F, Machine.loByte a, Machine.hiByte a]
  | .bvc b => [0x50, b]
  | .eorIndy b => [0x51, b]
  | .jam52 => [0x52]
  | .sreIndy b => [0x53, b]
  | .nopZpx54 b => [0x54, b]
  | .eorZpx b => [0x55, b]
  | .lsrZpx b => [0x56, b]
  | .sreZpx b => [0x57, b]
  | .cli => [0x58]
  | .eorAbsy a => [0x59, Machine.loByte a, Machine.hiByte a]
  | .nopImpl5A => [0x5A]
  | .sreAbsy a => [0x5B, Machine.loByte a, Machine.hiByte a]
  | .nopAbsx5C a => [0x5C, Machine.loByte a, Machine.hiByte a]
  | .eorAbsx a => [0x5D, Machine.loByte a, Machine.hiByte a]
  | .lsrAbsx a => [0x5E, Machine.loByte a, Machine.hiByte a]
  | .sreAbsx a => [0x5F, Machine.loByte a, Machine.hiByte a]
  | .rts => [0x60]
  | .adcIndx b => [0x61, b]
  | .jam62 => [0x62]
  | .rraIndx b => [0x63, b]
  | .nopZp64 b => [0x64, b]
  | .adcZp b => [0x65, b]
  | .rorZp b => [0x66, b]
  | .rraZp b => [0x67, b]
  | .pla => [0x68]
  | .adcImm b => [0x69, b]
  | .rorAcc => [0x6A]
  | .arrImm b => [0x6B, b]
  | .jmpInd a => [0x6C, Machine.loByte a, Machine.hiByte a]
  | .adcAbs a => [0x6D, Machine.loByte a, Machine.hiByte a]
  | .rorAbs a => [0x6E, Machine.loByte a, Machine.hiByte a]
  | .rraAbs a => [0x6F, Machine.loByte a, Machine.hiByte a]
  | .bvs b => [0x70, b]
  | .adcIndy b => [0x71, b]
  | .jam72 => [0x72]
  | .rraIndy b => [0x73, b]
  | .nopZpx74 b => [0x74, b]
  | .adcZpx b => [0x75, b]
  | .rorZpx b => [0x76, b]
  | .rraZpx b => [0x77, b]
  | .sei => [0x78]
  | .adcAbsy a => [0x79, Machine.loByte a, Machine.hiByte a]
  | .nopImpl7A => [0x7A]
  | .rraAbsy a => [0x7B, Machine.loByte a, Machine.hiByte a]
  | .nopAbsx7C a => [0x7C, Machine.loByte a, Machine.hiByte a]
  | .adcAbsx a => [0x7D, Machine.loByte a, Machine.hiByte a]
  | .rorAbsx a => [0x7E, Machine.loByte a, Machine.hiByte a]
  | .rraAbsx a => [0x7F, Machine.loByte a, Machine.hiByte a]
  | .nopImm80 b => [0x80, b]
  | .staIndx b => [0x81, b]
  | .nopImm82 b => [0x82, b]
  | .saxIndx b => [0x83, b]
  | .styZp b => [0x84, b]
  | .staZp b => [0x85, b]
  | .stxZp b => [0x86, b]
  | .saxZp b => [0x87, b]
  | .dey => [0x88]
  | .nopImm89 b => [0x89, b]
  | .txa => [0x8A]
  | .aneImm b => [0x8B, b]
  | .styAbs a => [0x8C, Machine.loByte a, Machine.hiByte a]
  | .staAbs a => [0x8D, Machine.loByte a, Machine.hiByte a]
  | .stxAbs a => [0x8E, Machine.loByte a, Machine.hiByte a]
  | .saxAbs a => [0x8F, Machine.loByte a, Machine.hiByte a]
  | .bcc b => [0x90, b]
  | .staIndy b => [0x91, b]
  | .jam92 => [0x92]
  | .shaIndy b => [0x93, b]
  | .styZpx b => [0x94, b]
  | .staZpx b => [0x95, b]
  | .stxZpy b => [0x96, b]
  | .saxZpy b => [0x97, b]
  | .tya => [0x98]
  | .staAbsy a => [0x99, Machine.loByte a, Machine.hiByte a]
  | .txs => [0x9A]
  | .tasAbsy a => [0x9B, Machine.loByte a, Machine.hiByte a]
  | .shyAbsx a => [0x9C, Machine.loByte a, Machine.hiByte a]
  | .staAbsx a => [0x9D, Machine.loByte a, Machine.hiByte a]
  | .shxAbsy a => [0x9E, Machine.loByte a, Machine.hiByte a]
  | .shaAbsy a => [0x9F, Machine.loByte a, Machine.hiByte a]
  | .ldyImm b => [0xA0, b]
  | .ldaIndx b => [0xA1, b]
  | .ldxImm b => [0xA2, b]
  | .laxIndx b => [0xA3, b]
  | .ldyZp b => [0xA4, b]
  | .ldaZp b => [0xA5, b]
  | .ldxZp b => [0xA6, b]
  | .laxZp b => [0xA7, b]
  | .tay => [0xA8]
  | .ldaImm b => [0xA9, b]
  | .tax => [0xAA]
  | .lxaImm b => [0xAB, b]
  | .ldyAbs a => [0xAC, Machine.loByte a, Machine.hiByte a]
  | .ldaAbs a => [0xAD, Machine.loByte a, Machine.hiByte a]
  | .ldxAbs a => [0xAE, Machine.loByte a, Machine.hiByte a]
  | .laxAbs a => [0xAF, Machine.loByte a, Machine.hiByte a]
  | .bcs b => [0xB0, b]
  | .ldaIndy b => [0xB1, b]
  | .jamB2 => [0xB2]
  | .laxIndy b => [0xB3, b]
  | .ldyZpx b => [0xB4, b]
  | .ldaZpx b => [0xB5, b]
  | .ldxZpy b => [0xB6, b]
  | .laxZpy b => [0xB7, b]
  | .clv => [0xB8]
  | .ldaAbsy a => [0xB9, Machine.loByte a, Machine.hiByte a]
  | .tsx => [0xBA]
  | .lasAbsy a => [0xBB, Machine.loByte a, Machine.hiByte a]
  | .ldyAbsx a => [0xBC, Machine.loByte a, Machine.hiByte a]
  | .ldaAbsx a => [0xBD, Machine.loByte a, Machine.hiByte a]
  | .ldxAbsy a => [0xBE, Machine.loByte a, Machine.hiByte a]
  | .laxAbsy a => [0xBF, Machine.loByte a, Machine.hiByte a]
  | .cpyImm b => [0xC0, b]
  | .cmpIndx b => [0xC1, b]
  | .nopImmC2 b => [0xC2, b]
  | .dcpIndx b => [0xC3, b]
  | .cpyZp b => [0xC4, b]
  | .cmpZp b => [0xC5, b]
  | .decZp b => [0xC6, b]
  | .dcpZp b => [0xC7, b]
  | .iny => [0xC8]
  | .cmpImm b => [0xC9, b]
  | .dex => [0xCA]
  | .axsImm b => [0xCB, b]
  | .cpyAbs a => [0xCC, Machine.loByte a, Machine.hiByte a]
  | .cmpAbs a => [0xCD, Machine.loByte a, Machine.hiByte a]
  | .decAbs a => [0xCE, Machine.loByte a, Machine.hiByte a]
  | .dcpAbs a => [0xCF, Machine.loByte a, Machine.hiByte a]
  | .bne b => [0xD0, b]
  | .cmpIndy b => [0xD1, b]
  | .jamD2 => [0xD2]
  | .dcpIndy b => [0xD3, b]
  | .nopZpxD4 b => [0xD4, b]
  | .cmpZpx b => [0xD5, b]
  | .decZpx b => [0xD6, b]
  | .dcpZpx b => [0xD7, b]
  | .cld => [0xD8]
  | .cmpAbsy a => [0xD9, Machine.loByte a, Machine.hiByte a]
  | .nopImplDA => [0xDA]
  | .dcpAbsy a => [0xDB, Machine.loByte a, Machine.hiByte a]
  | .nopAbsxDC a => [0xDC, Machine.loByte a, Machine.hiByte a]
  | .cmpAbsx a => [0xDD, Machine.loByte a, Machine.hiByte a]
  | .decAbsx a => [0xDE, Machine.loByte a, Machine.hiByte a]
  | .dcpAbsx a => [0xDF, Machine.loByte a, Machine.hiByte a]
  | .cpxImm b => [0xE0, b]
  | .sbcIndx b => [0xE1, b]
  | .nopImmE2 b => [0xE2, b]
  | .iscIndx b => [0xE3, b]
  | .cpxZp b => [0xE4, b]
  | .sbcZp b => [0xE5, b]
  | .incZp b => [0xE6, b]
  | .iscZp b => [0xE7, b]
  | .inx => [0xE8]
  | .sbcImm b => [0xE9, b]
  | .nop => [0xEA]
  | .sbcImmEB b => [0xEB, b]
  | .cpxAbs a => [0xEC, Machine.loByte a, Machine.hiByte a]
  | .sbcAbs a => [0xED, Machine.loByte a, Machine.hiByte a]
  | .incAbs a => [0xEE, Machine.loByte a, Machine.hiByte a]
  | .iscAbs a => [0xEF, Machine.loByte a, Machine.hiByte a]
  | .beq b => [0xF0, b]
  | .sbcIndy b => [0xF1, b]
  | .jamF2 => [0xF2]
  | .iscIndy b => [0xF3, b]
  | .nopZpxF4 b => [0xF4, b]
  | .sbcZpx b => [0xF5, b]
  | .incZpx b => [0xF6, b]
  | .iscZpx b => [0xF7, b]
  | .sed => [0xF8]
  | .sbcAbsy a => [0xF9, Machine.loByte a, Machine.hiByte a]
  | .nopImplFA => [0xFA]
  | .iscAbsy a => [0xFB, Machine.loByte a, Machine.hiByte a]
  | .nopAbsxFC a => [0xFC, Machine.loByte a, Machine.hiByte a]
  | .sbcAbsx a => [0xFD, Machine.loByte a, Machine.hiByte a]
  | .incAbsx a => [0xFE, Machine.loByte a, Machine.hiByte a]
  | .iscAbsx a => [0xFF, Machine.loByte a, Machine.hiByte a]

/-- The three bytes of a table word: byte `k` of the instruction is bits `8k+7..8k`, and every bit from `nbits` on is 0. -/
def tableBytes (nbits w : Nat) : List Byte :=
  let v := w % 2 ^ nbits
  [BitVec.ofNat 8 v, BitVec.ofNat 8 (v / 0x100), BitVec.ofNat 8 (v / 0x10000)]

/-- The instruction the decoder reads from a word numbered as spec/opcode_table.json numbers its bits. -/
def decodeTableWord (nbits w : Nat) : Option Instr :=
  match decode (tableBytes nbits w) with
  | .ok r => some r.1
  | .error _ => none

end Sys2Proof
end

