-- ==== Sys2Proof/Machine/PpuRender.lean ====
section
/-! DEFINITION. One PPU dot: the background pipeline, sprites, pixels and frame events (50_ppu.md, sections 3 to 6). The
rasterizer reads the cartridge and the mapper and changes only the PPU's own state; the NMI it raises is `ppuRaisesNmi`. -/

namespace Sys2Proof.Machine

/-- The shift of R431. -/
def shiftBg (p : Ppu) : Ppu :=
  { p with shLo := p.shLo <<< 1, shHi := p.shHi <<< 1, shALo := p.shALo <<< 1, shAHi := p.shAHi <<< 1 }

/-- The shifter reload of R435. -/
def reloadBg (p : Ppu) : Ppu :=
  { p with
    shLo := (p.shLo &&& 0xFF00) ||| zext16 p.bgLo,
    shHi := (p.shHi &&& 0xFF00) ||| zext16 p.bgHi,
    shALo := (p.shALo &&& 0xFF00) ||| (if p.bgAt.getLsbD 0 then 0x00FF else 0x0000),
    shAHi := (p.shAHi &&& 0xFF00) ||| (if p.bgAt.getLsbD 1 then 0x00FF else 0x0000) }

/-- Address of the nametable byte v points at (R433). -/
def nametableAddr (v : BitVec 15) : BitVec 14 := 0x2000 ||| (ppuAddr v &&& 0x0FFF)

/-- Address of the attribute byte v points at (R432, R433). -/
def attributeAddr (v : BitVec 15) : BitVec 14 :=
  0x23C0 ||| (ppuAddr v &&& 0x0C00) ||| (ppuAddr (v >>> 4) &&& 0x38) ||| (ppuAddr (v >>> 2) &&& 0x07)

/-- The 2-bit field of an attribute byte for v's quadrant (R432, R433). -/
def attributeBits (v : BitVec 15) (at8 : Byte) : BitVec 2 :=
  (at8 >>> (((v >>> 4) &&& 4) ||| (v &&& 2)).toNat).setWidth 2

/-- `pattern_addr(k)` (R434). -/
def patternAddr (p : Ppu) (k : BitVec 14) : BitVec 14 :=
  (if p.ctrl.getLsbD 4 then 0x1000 else 0x0000) + p.bgNt.setWidth 14 * 16 + k + ppuAddr ((p.v >>> 12) &&& 7)

/-- The fetch phase of dot `d` (R432). -/
def fetchBg (c : Cart) (m : Mapper) (d : Nat) (p : Ppu) : Ppu :=
  match (d - 1) % 8 with
  | 0 => let p1 := reloadBg p
         { p1 with bgNt := ppuRead c m p1 (nametableAddr p1.v) }
  | 2 => { p with bgAt := attributeBits p.v (ppuRead c m p (attributeAddr p.v)) }
  | 4 => { p with bgLo := ppuRead c m p (patternAddr p 0) }
  | 6 => { p with bgHi := ppuRead c m p (patternAddr p 8) }
  | 7 => { p with v := if d == 256 then incY (incX p.v) else incX p.v }
  | _ => p

/-- The copies from t to v (R438). -/
def copyBg (line d : Nat) (p : Ppu) : Ppu :=
  let p1 := if d == 257 then { p with v := (p.v &&& 0x7BE0) ||| (p.t &&& 0x041F) } else p
  if line == 261 && decide (280 ≤ d) && decide (d ≤ 304) then
    { p1 with v := (p1.v &&& 0x041F) ||| (p1.t &&& 0x7BE0) }
  else p1

/-- The dots on which the pipeline shifts and fetches (R430). -/
def bgActiveDot (d : Nat) : Bool := (decide (2 ≤ d) && decide (d ≤ 257)) || (decide (321 ≤ d) && decide (d ≤ 337))

/-- The background pipeline at dot `d` of a render line (R430). -/
def stepBg (c : Cart) (m : Mapper) (line d : Nat) (p : Ppu) : Ppu :=
  copyBg line d (if bgActiveDot d then fetchBg c m d (shiftBg p) else p)

/-- `h`, the sprite height (R401). -/
def spriteHeight (p : Ppu) : Nat := if p.ctrl.getLsbD 5 then 16 else 8

/-- `0 <= L - y < h`, on integers (R440, R441). -/
def spriteInRange (line h : Nat) (y : Byte) : Bool := decide (y.toNat ≤ line) && decide (line < y.toNat + h)

/-- Byte `m` of OAM entry `n` (R61). -/
def oamByte (p : Ppu) (n m : Nat) : Byte := cellsRead p.oam (4 * n + m)

/-- The evaluation loop of R440 from entry `n`, with `fuel` entries left and the entries selected so far; answers the selected
entries in order and the entry at which it stopped. -/
def evalSprites (p : Ppu) (line : Nat) : Nat → Nat → List Nat → List Nat × Nat
  | 0, n, sel => (sel, n)
  | fuel + 1, n, sel =>
    if sel.length == 8 then (sel, n)
    else evalSprites p line fuel (n + 1)
      (if spriteInRange line (spriteHeight p) (oamByte p n 0) then sel ++ [n] else sel)

/-- The overflow scan of R441 with the hardware bug: does it set SPR_OVERFLOW? -/
def overflowScan (p : Ppu) (line : Nat) : Nat → Nat → Nat → Bool
  | 0, _, _ => false
  | fuel + 1, n, m =>
    if spriteInRange line (spriteHeight p) (oamByte p n m) then true
    else overflowScan p line fuel (n + 1) ((m + 1) % 4)

/-- The pattern address of a sprite's row before the plane offset (R442). -/
def spriteRowAddr (p : Ppu) (line n : Nat) : Nat :=
  let tile := oamByte p n 1
  let row0 := line - (oamByte p n 0).toNat
  let row := if (oamByte p n 2).getLsbD 7 then spriteHeight p - 1 - row0 else row0
  if p.ctrl.getLsbD 5 == false then
    (if p.ctrl.getLsbD 3 then 0x1000 else 0) + tile.toNat * 16 + row
  else
    let tnum := (tile &&& 0xFE).toNat + (if 8 ≤ row then 1 else 0)
    (tile &&& 1).toNat * 0x1000 + tnum * 16 + row % 8

/-- The slot fetched for OAM entry `n` (R442). -/
def fetchSprite (c : Cart) (m : Mapper) (p : Ppu) (line n : Nat) : SpriteSlot :=
  let a := spriteRowAddr p line n
  let lo := ppuRead c m p (BitVec.ofNat 14 a)
  let hi := ppuRead c m p (BitVec.ofNat 14 (a + 8))
  let attr := oamByte p n 2
  { lo := if attr.getLsbD 6 then reverse8 lo else lo,
    hi := if attr.getLsbD 6 then reverse8 hi else hi,
    attr := attr,
    x := oamByte p n 3 }

/-- Slot `i` after the fetch: loaded from the `i`-th selected entry if there is one, else as before (R442). -/
def loadedSlot (c : Cart) (m : Mapper) (p : Ppu) (line : Nat) (sel : List Nat) (i : Nat) (old : SpriteSlot) : SpriteSlot :=
  match sel[i]? with
  | some n => fetchSprite c m p line n
  | none => old

/-- Sprite evaluation and fetch for line `line + 1` (R440 to R442). -/
def stepSprites (c : Cart) (m : Mapper) (line : Nat) (p : Ppu) : Ppu :=
  let r := evalSprites p line 64 0 []
  let sel := r.1
  { p with
    sprOverflow := p.sprOverflow || (sel.length == 8 && overflowScan p line (64 - r.2) r.2 0),
    slots := #v[loadedSlot c m p line sel 0 p.slots[0], loadedSlot c m p line sel 1 p.slots[1],
                loadedSlot c m p line sel 2 p.slots[2], loadedSlot c m p line sel 3 p.slots[3],
                loadedSlot c m p line sel 4 p.slots[4], loadedSlot c m p line sel 5 p.slots[5],
                loadedSlot c m p line sel 6 p.slots[6], loadedSlot c m p line sel 7 p.slots[7]],
    sprCount := sel.length,
    spr0Loaded := spriteInRange line (spriteHeight p) (oamByte p 0 0) }

/-- No sprite is loaded for the next line (R442, R443). -/
def clearSprites (p : Ppu) : Ppu := { p with sprCount := 0, spr0Loaded := false }

/-- Is pixel column `x` clipped by a left-column bit of PPUMASK (R447)? -/
def leftClipped (shown : Bool) (x : Nat) : Bool := decide (x < 8) && !shown

/-- The 2-bit background value `p` at column `x` (R439, R447). -/
def bgPattern (p : Ppu) (x : Nat) : Nat :=
  let b := 15 - p.x.toNat
  if !showBg p || leftClipped (p.mask.getLsbD 1) x then 0 else twoBits (p.shHi.getLsbD b) (p.shLo.getLsbD b)

/-- The 2-bit background palette number `pal` (R439). -/
def bgPalette (p : Ppu) : Nat :=
  let b := 15 - p.x.toNat
  twoBits (p.shAHi.getLsbD b) (p.shALo.getLsbD b)

/-- The 2-bit value of one slot at column `x`, 0 outside its eight columns (R444). -/
def slotPattern (sl : SpriteSlot) (x : Nat) : Nat :=
  if sl.x.toNat ≤ x ∧ x < sl.x.toNat + 8 then
    let off := x - sl.x.toNat
    twoBits (sl.hi.getLsbD (7 - off)) (sl.lo.getLsbD (7 - off))
  else 0

/-- The first opaque slot of a list at column `x`, with its value (R444). -/
def firstOpaque : List SpriteSlot → Nat → Option (Nat × SpriteSlot)
  | [], _ => none
  | sl :: rest, x => if slotPattern sl x == 0 then firstOpaque rest x else some (slotPattern sl x, sl)

/-- Are sprites hidden at column `x` (R444, R447)? -/
def spritesHidden (p : Ppu) (x : Nat) : Bool := !showSpr p || leftClipped (p.mask.getLsbD 2) x

/-- The shown sprite at column `x`: its value and its slot (R444). -/
def spritePixel (p : Ppu) (x : Nat) : Option (Nat × SpriteSlot) :=
  if spritesHidden p x then none else firstOpaque (p.slots.toList.take p.sprCount) x

/-- The palette index of the pixel (R445). -/
def pixelIndex (bg pal : Nat) : Option (Nat × SpriteSlot) → Nat
  | none => if bg == 0 then 0 else 4 * pal + bg
  | some (sp, sl) =>
    if bg != 0 && sl.attr.getLsbD 5 then 4 * pal + bg
    else 0x10 + 4 * (sl.attr &&& 3).toNat + sp

/-- The 9-bit code of a palette colour under GREYSCALE and the emphasis bits (R64, R445, R448). -/
def pixelCode (p : Ppu) (c : BitVec 6) : BitVec 9 :=
  p.mask.extractLsb' 5 3 ++ (if p.mask.getLsbD 0 then c &&& 0x30 else c)

/-- Does sprite 0 hit the background at column `x` (R446)? -/
def spriteZeroHit (p : Ppu) (x : Nat) : Bool :=
  p.spr0Loaded && slotPattern p.slots[0] x != 0 && !spritesHidden p x && bgPattern p x != 0 && showBg p && x != 255

/-- The pixel of column `x` on line `line` (R439, R444 to R449). -/
def drawPixel (line x : Nat) (p : Ppu) : Ppu :=
  if renderingEnabled p then
    let idx := pixelIndex (bgPattern p x) (bgPalette p) (spritePixel p x)
    { p with
      fbBack := cellsWrite p.fbBack (256 * line + x) (pixelCode p (paletteRead p idx)),
      spr0Hit := p.spr0Hit || spriteZeroHit p x }
  else { p with fbBack := cellsWrite p.fbBack (256 * line + x) (pixelCode p (paletteRead p 0)) }

/-- Start of VBlank but for the NMI (R450). -/
def startVblank (p : Ppu) : Ppu := { p with vblank := true, fbBack := p.fbFront, fbFront := p.fbBack }

/-- The pre-render line's flag clear (R451). -/
def clearStatus (p : Ppu) : Ppu := { p with vblank := false, spr0Hit := false, sprOverflow := false }

/-- Step 1 of a dot: the flag events (R426). -/
def dotFlags (line d : Nat) (p : Ppu) : Ppu :=
  if line == 241 && d == 1 then startVblank p
  else if line == 261 && d == 1 then clearStatus p
  else p

/-- Step 3 of a dot: the sprite work at dot 257 of a visible line; with rendering off the slots are cleared (R426, R442;
log 12). -/
def dotSprites (c : Cart) (m : Mapper) (line d : Nat) (p : Ppu) : Ppu :=
  if decide (line ≤ 239) && d == 257 then
    if renderingEnabled p then stepSprites c m line p else clearSprites p
  else p

/-- `do_dot(L, d)` (R426). -/
def doDot (c : Cart) (m : Mapper) (line d : Nat) (p : Ppu) : Ppu :=
  let p1 := dotFlags line d p
  let p2 := if renderingEnabled p1 && renderLine p1 then stepBg c m line d p1 else p1
  let p3 := dotSprites c m line d p2
  let p4 := if decide (line ≤ 239) && decide (1 ≤ d) && decide (d ≤ 256) then drawPixel line (d - 1) p3 else p3
  if line == 261 && d == 257 then clearSprites p4 else p4

/-- Is the last dot of the pre-render line skipped (R425, D15)? -/
def skipsDot (par : Params) (p : Ppu) : Bool :=
  p.scanline == 261 && p.dot == 339 && p.oddFrame && (renderingEnabled p || !par.oddSkipRequiresRendering)

/-- The position after a dot (R425). -/
def advanceDot (par : Params) (p : Ppu) : Ppu :=
  if skipsDot par p then { p with scanline := 0, dot := 0, oddFrame := false }
  else if p.dot + 1 == 341 then
    if p.scanline + 1 == 262 then { p with dot := 0, scanline := 0, oddFrame := !p.oddFrame }
    else { p with dot := 0, scanline := p.scanline + 1 }
  else { p with dot := p.dot + 1 }

/-- Does the dot at the current position raise the NMI (R450)? -/
def ppuRaisesNmi (p : Ppu) : Bool := p.scanline == 241 && p.dot == 1 && nmiEnable p

/-- `PpuTick()` on the PPU alone (R425). -/
def ppuDot (par : Params) (c : Cart) (m : Mapper) (p : Ppu) : Ppu := advanceDot par (doDot c m p.scanline p.dot p)

/-- `PpuTick()` (R425, R450): one dot, and the NMI latch it may set. -/
def ppuTick (s : State) : State :=
  { s with ppu := ppuDot s.params s.cart s.mapper s.ppu, nmiPending := s.nmiPending || ppuRaisesNmi s.ppu }

end Sys2Proof.Machine
end

