-- ==== Sys2Proof/Machine/Sched.lean ====
section
/-! DEFINITION. The parts of the system step around an instruction (R650 to R653 of 53_scheduler_and_ports.md): fetch and
decode, the advance of the devices, the DMC stall, the interrupt check; and the placing of an instruction's bytes. -/

namespace Sys2Proof.Machine

/-- `ApuTick(k)`: the units, then the DMC memory reader (R501). -/
def apuTick (k : Nat) (s : State) : State := dmcReader { s with apu := apuClock k s.apu }

/-- `n` APU ticks, the first at cycle `k` (R652). -/
def apuTicks : Nat → Nat → State → State
  | 0, _, s => s
  | n + 1, k, s => apuTicks n (k + 1) (apuTick k s)

/-- `n` CPU cycles are counted (R47, R652). -/
def State.addCycles (s : State) (n : Nat) : State := { s with cpuCycles := s.cpuCycles + n }

/-- `Advance(n)` (R652): 3n dots, n APU ticks, the cycle count, the mapper. -/
def advance (n : Nat) (s : State) : State :=
  mapperClock n ((apuTicks n s.cpuCycles (iterate ppuTick (3 * n) s)).addCycles n)

/-- Rounds of `DrainStalls()` (R653) with a bound on their number. -/
def drainRounds : Nat → State → State
  | 0, s => s
  | fuel + 1, s =>
    if s.stallPending == 0 then s
    else drainRounds fuel (advance s.stallPending { s with stallPending := 0 })

/-- `DrainStalls()` (R653). The loop ends by itself: two fetches of the DMC reader lie at least 432 cycles apart, so a round of
more than 4 cycles asks for fewer cycles than it had, and one of at most 4 is followed by one last round (log 10). -/
def drainStalls (s : State) : State := drainRounds (s.stallPending + 2) s

/-- An interrupt taken at the end of a step: the entry, 7 cycles, and the stalls they ask for (R650, R715). -/
def takeInterrupt (k : Interrupt) (s : State) : State := drainStalls (advance 7 (enterInterrupt k s))

/-- Which interrupt the check at the end of a step takes (R650, R712, R713). -/
def pendingInterrupt (s : State) : Option Interrupt :=
  if s.nmiPending then some .nmi
  else if irqLine s && !s.cpu.p.i then some .irq
  else none

/-- The check at the end of a step (R650). -/
def checkInterrupts (s : State) : State :=
  match pendingInterrupt s with
  | some k => takeInterrupt k s
  | none => s

/-- The step-local variables are 0 at a step boundary (R650; log 8). -/
def clearLocals (s : State) : State := { s with cost := 0, dmaCycles := 0, stallPending := 0 }

/-- What follows an instruction in a step (R650): nothing once a fault is recorded, else the devices, the stalls, the
interrupt check. -/
def finish (s : State) : State :=
  if s.fault.isSome then s else clearLocals (checkInterrupts (drainStalls (advance (s.cost + s.dmaCycles) s)))

/-- Does an opcode of this class raise UnimplementedOpcode (R360, R380, R381)? -/
def classTraps (par : Params) : OpcodeClass → Bool
  | .official => false
  | .unofficial => !par.unofficialEnabled
  | .unstable => true
  | .jam => true

/-- Fetch and decode (R115, R170, R651): the opcode, then the operand bytes in address order. An opcode that traps has its
operand bytes neither fetched nor looked at (R189; log 9). PC is left at PC0. -/
def fetch (s : State) : Instr × State :=
  let op := busRead s.cpu.pc s
  if classTraps s.params (opcodeClass op.1) then (decodeOp op.1 0 0, op.2)
  else
    match opcodeLength op.1 with
    | 1 => (decodeOp op.1 0 0, op.2)
    | 2 =>
      let b1 := busRead (s.cpu.pc + 1) op.2
      (decodeOp op.1 b1.1 0, b1.2)
    | _ =>
      let b1 := busRead (s.cpu.pc + 1) op.2
      let b2 := busRead (s.cpu.pc + 2) b1.2
      (decodeOp op.1 b1.1 b2.1, b2.2)

/-- Puts a byte where a fetch of address `a` finds it: RAM, PRG RAM or the PRG ROM cell the mapper shows there (a cartridge with
no bank gets one). Device registers hold no byte, so there nothing is placed (log 26). -/
def placeByte (a : Word) (v : Byte) (s : State) : State :=
  if a.toNat < 0x2000 then { s with ram := cellsWrite s.ram (a.toNat % 0x800) v }
  else if a.toNat < 0x6000 then s
  else if a.toNat < 0x8000 then
    { s with params := { s.params with prgRamPresent := true },
             mapper := { s.mapper with prgRam := cellsWrite s.mapper.prgRam (a.toNat - 0x6000) v } }
  else
    let slot := if a.toNat < 0xC000 then s.mapper.prgSlot0 else s.mapper.prgSlot1
    { s with cart := { s.cart with prgBanks := max s.cart.prgBanks 1,
                                   prg := cellsWrite s.cart.prg (16384 * slot + a.toNat % 16384) v } }

/-- Places the listed bytes from address `a` on. -/
def placeBytes : Word → List Byte → State → State
  | _, [], s => s
  | a, b :: bs, s => placeBytes (a + 1) bs (placeByte a b s)

/-- A machine whose step is enabled (R650): a mapper bound, running, no fault. A program is loaded from outside (log 4). -/
def enableStep (s : State) : State :=
  { s with running := true, fault := none, mapper := { s.mapper with bound := true } }

end Sys2Proof.Machine
end

