-- ==== Sys2Proof/Machine/Step.lean ====
section
/-! DEFINITION. The system step (R650 of 53_scheduler_and_ports.md), and the machine with an instruction placed where its next
step fetches. -/

namespace Sys2Proof.Machine

/-- `Step()` (R650). It is enabled when no fault is recorded, a mapper is bound and the host runs the machine; in any other
state it stops by name. -/
def step (s : State) : Host.Outcome State Fault Refusal :=
  match s.fault with
  | some f => .fault (.unimplementedOpcode f.pc f.opcode)
  | none =>
    if !s.mapper.bound then .fault .noMapper
    else if !s.running then .fault .paused
    else
      let f := fetch (clearLocals s)
      match exec f.1 f.2 with
      | .next t => .next (finish t)
      | .fault r => .fault r
      | .refused r => .refused r

/-- The state with the instruction of a table word stored where `step` fetches its next instruction, and the step enabled
(log 4, log 26). -/
def State.withFetchWord (s : State) (nbits w : Nat) : State :=
  enableStep (placeBytes s.cpu.pc (tableBytes nbits w) s)

end Sys2Proof.Machine
end

