-- ==== Sys2Proof/Forms.lean ====
section
/-! DEFINITION. Vocabulary for claims: the forms of each instruction as the rules of files 40 to 46 list them (instruction, opcode,
operand form, cycles), and for every instruction the registers and flags its rule writes and the addresses it stores to. -/

namespace Sys2Proof.Machine

/-- One form of an instruction with a memory or immediate operand, with the cycles its rule's encoding line gives it. -/
structure Form where
  instr : Instr
  opcode : Byte
  operand : Operand
  cycles : Nat

/-- The operand bytes of an instruction, in address order (R170, R173). -/
def operandBytes : Operand → List Byte
  | .imm b | .zp b | .zpx b | .zpy b | .indx b | .indy b => [b]
  | .abs a | .absx a | .absy a => [loByte a, hiByte a]

/-- The encoding line of an instruction's rule: its bytes, and its cycles in the default table (R185, R186). -/
def coded (i : Instr) (opcode : Byte) (operands : List Byte) (cycles : Nat) : Prop :=
  encode i = opcode :: operands ∧ Params.cycles[opcode.toNat]? = some cycles

/-- The encoding line of a form. -/
def Form.coded (f : Form) : Prop := Machine.coded f.instr f.opcode (operandBytes f.operand) f.cycles

/-- `PCn` of a form (R20). -/
def nextPc (f : Form) (s : State) : Word := s.cpu.pc + BitVec.ofNat 16 (operandLength f.operand)

/-- The operand value `M` of a reading form, and the state after the read with its cost charged (R20, R185, R188). -/
def readM (f : Form) (s : State) : Byte × State := readOperand f.operand (s.charge f.opcode)

/-- The effective address of a storing or read-modify-write form (R177 to R183). -/
def formEa (f : Form) (s : State) : Word := (resolve f.operand (s.charge f.opcode)).ea

/-- The value `M` a read-modify-write form reads at its effective address, and the state after the read. -/
def rmwM (f : Form) (s : State) : Byte × State := busRead (formEa f s) (s.charge f.opcode)

/-- The state after a read-modify-write form has stored `v` at its effective address. -/
def rmwStored (f : Form) (v : Byte) (s : State) : State := busWrite (formEa f s) v (rmwM f s).2

/-- `NZ(v)` (R18). -/
def nzOf (p : Flags) (v : Byte) : Flags := { p with n := v.getLsbD 7, z := decide (v = 0) }

/-- The sum and the flags of ADC, in integers (R241): V is 1 exactly when the signed sum lies outside -128..127. -/
def adcRule (p : Flags) (a m : Byte) : Byte × Flags :=
  let r := a + m + bit8 p.c
  let sum : Int := a.toInt + m.toInt + bitNat p.c
  (r, nzOf { p with c := decide (256 ≤ a.toNat + m.toNat + bitNat p.c), v := decide (sum < -128 ∨ 127 < sum) } r)

/-- The difference and the flags of SBC, in integers (R242): C is 1 exactly when A ≥ M + (1 - C). -/
def sbcRule (p : Flags) (a m : Byte) : Byte × Flags :=
  let r := a - m - bit8 (!p.c)
  let diff : Int := a.toInt - m.toInt - bitNat (!p.c)
  (r, nzOf { p with c := decide (m.toNat + bitNat (!p.c) ≤ a.toNat), v := decide (diff < -128 ∨ 127 < diff) } r)

/-- The flags of a compare of `r` with `m` (R246). -/
def cmpRule (p : Flags) (r m : Byte) : Flags :=
  { p with c := decide (m.toNat ≤ r.toNat), z := decide (r = m), n := (r - m).getLsbD 7 }

/-- The listed bytes stand at address `a` and after it (wrapping modulo 65536). -/
def bytesAt (s : State) : Word → List Byte → Prop
  | _, [] => True
  | a, b :: bs => peek s a = some b ∧ bytesAt s (a + 1) bs

/-- LDA (R201). -/
def ldaForms (b : Byte) (a : Word) : List Form :=
  [⟨.ldaIndx b, 0xA1, .indx b, 6⟩, ⟨.ldaZp b, 0xA5, .zp b, 3⟩, ⟨.ldaImm b, 0xA9, .imm b, 2⟩,
   ⟨.ldaAbs a, 0xAD, .abs a, 4⟩, ⟨.ldaIndy b, 0xB1, .indy b, 5⟩, ⟨.ldaZpx b, 0xB5, .zpx b, 4⟩,
   ⟨.ldaAbsy a, 0xB9, .absy a, 4⟩, ⟨.ldaAbsx a, 0xBD, .absx a, 4⟩]

/-- LDX (R202). -/
def ldxForms (b : Byte) (a : Word) : List Form :=
  [⟨.ldxImm b, 0xA2, .imm b, 2⟩, ⟨.ldxZp b, 0xA6, .zp b, 3⟩, ⟨.ldxAbs a, 0xAE, .abs a, 4⟩,
   ⟨.ldxZpy b, 0xB6, .zpy b, 4⟩, ⟨.ldxAbsy a, 0xBE, .absy a, 4⟩]

/-- LDY (R203). -/
def ldyForms (b : Byte) (a : Word) : List Form :=
  [⟨.ldyImm b, 0xA0, .imm b, 2⟩, ⟨.ldyZp b, 0xA4, .zp b, 3⟩, ⟨.ldyAbs a, 0xAC, .abs a, 4⟩,
   ⟨.ldyZpx b, 0xB4, .zpx b, 4⟩, ⟨.ldyAbsx a, 0xBC, .absx a, 4⟩]

/-- ADC (R241). -/
def adcForms (b : Byte) (a : Word) : List Form :=
  [⟨.adcIndx b, 0x61, .indx b, 6⟩, ⟨.adcZp b, 0x65, .zp b, 3⟩, ⟨.adcImm b, 0x69, .imm b, 2⟩,
   ⟨.adcAbs a, 0x6D, .abs a, 4⟩, ⟨.adcIndy b, 0x71, .indy b, 5⟩, ⟨.adcZpx b, 0x75, .zpx b, 4⟩,
   ⟨.adcAbsy a, 0x79, .absy a, 4⟩, ⟨.adcAbsx a, 0x7D, .absx a, 4⟩]

/-- SBC (R242). -/
def sbcForms (b : Byte) (a : Word) : List Form :=
  [⟨.sbcIndx b, 0xE1, .indx b, 6⟩, ⟨.sbcZp b, 0xE5, .zp b, 3⟩, ⟨.sbcImm b, 0xE9, .imm b, 2⟩,
   ⟨.sbcAbs a, 0xED, .abs a, 4⟩, ⟨.sbcIndy b, 0xF1, .indy b, 5⟩, ⟨.sbcZpx b, 0xF5, .zpx b, 4⟩,
   ⟨.sbcAbsy a, 0xF9, .absy a, 4⟩, ⟨.sbcAbsx a, 0xFD, .absx a, 4⟩]

/-- AND (R243). -/
def andForms (b : Byte) (a : Word) : List Form :=
  [⟨.andIndx b, 0x21, .indx b, 6⟩, ⟨.andZp b, 0x25, .zp b, 3⟩, ⟨.andImm b, 0x29, .imm b, 2⟩,
   ⟨.andAbs a, 0x2D, .abs a, 4⟩, ⟨.andIndy b, 0x31, .indy b, 5⟩, ⟨.andZpx b, 0x35, .zpx b, 4⟩,
   ⟨.andAbsy a, 0x39, .absy a, 4⟩, ⟨.andAbsx a, 0x3D, .absx a, 4⟩]

/-- ORA (R244). -/
def oraForms (b : Byte) (a : Word) : List Form :=
  [⟨.oraIndx b, 0x01, .indx b, 6⟩, ⟨.oraZp b, 0x05, .zp b, 3⟩, ⟨.oraImm b, 0x09, .imm b, 2⟩,
   ⟨.oraAbs a, 0x0D, .abs a, 4⟩, ⟨.oraIndy b, 0x11, .indy b, 5⟩, ⟨.oraZpx b, 0x15, .zpx b, 4⟩,
   ⟨.oraAbsy a, 0x19, .absy a, 4⟩, ⟨.oraAbsx a, 0x1D, .absx a, 4⟩]

/-- EOR (R245). -/
def eorForms (b : Byte) (a : Word) : List Form :=
  [⟨.eorIndx b, 0x41, .indx b, 6⟩, ⟨.eorZp b, 0x45, .zp b, 3⟩, ⟨.eorImm b, 0x49, .imm b, 2⟩,
   ⟨.eorAbs a, 0x4D, .abs a, 4⟩, ⟨.eorIndy b, 0x51, .indy b, 5⟩, ⟨.eorZpx b, 0x55, .zpx b, 4⟩,
   ⟨.eorAbsy a, 0x59, .absy a, 4⟩, ⟨.eorAbsx a, 0x5D, .absx a, 4⟩]

/-- CMP (R246). -/
def cmpForms (b : Byte) (a : Word) : List Form :=
  [⟨.cmpIndx b, 0xC1, .indx b, 6⟩, ⟨.cmpZp b, 0xC5, .zp b, 3⟩, ⟨.cmpImm b, 0xC9, .imm b, 2⟩,
   ⟨.cmpAbs a, 0xCD, .abs a, 4⟩, ⟨.cmpIndy b, 0xD1, .indy b, 5⟩, ⟨.cmpZpx b, 0xD5, .zpx b, 4⟩,
   ⟨.cmpAbsy a, 0xD9, .absy a, 4⟩, ⟨.cmpAbsx a, 0xDD, .absx a, 4⟩]

/-- CPX (R247). -/
def cpxForms (b : Byte) (a : Word) : List Form :=
  [⟨.cpxImm b, 0xE0, .imm b, 2⟩, ⟨.cpxZp b, 0xE4, .zp b, 3⟩, ⟨.cpxAbs a, 0xEC, .abs a, 4⟩]

/-- CPY (R248). -/
def cpyForms (b : Byte) (a : Word) : List Form :=
  [⟨.cpyImm b, 0xC0, .imm b, 2⟩, ⟨.cpyZp b, 0xC4, .zp b, 3⟩, ⟨.cpyAbs a, 0xCC, .abs a, 4⟩]

/-- BIT (R249). -/
def bitForms (b : Byte) (a : Word) : List Form :=
  [⟨.bitZp b, 0x24, .zp b, 3⟩, ⟨.bitAbs a, 0x2C, .abs a, 4⟩]

/-- STA (R204). -/
def staForms (b : Byte) (a : Word) : List Form :=
  [⟨.staIndx b, 0x81, .indx b, 6⟩, ⟨.staZp b, 0x85, .zp b, 3⟩, ⟨.staAbs a, 0x8D, .abs a, 4⟩,
   ⟨.staIndy b, 0x91, .indy b, 6⟩, ⟨.staZpx b, 0x95, .zpx b, 4⟩, ⟨.staAbsy a, 0x99, .absy a, 5⟩,
   ⟨.staAbsx a, 0x9D, .absx a, 5⟩]

/-- STX (R205). -/
def stxForms (b : Byte) (a : Word) : List Form :=
  [⟨.stxZp b, 0x86, .zp b, 3⟩, ⟨.stxAbs a, 0x8E, .abs a, 4⟩, ⟨.stxZpy b, 0x96, .zpy b, 4⟩]

/-- STY (R206). -/
def styForms (b : Byte) (a : Word) : List Form :=
  [⟨.styZp b, 0x84, .zp b, 3⟩, ⟨.styAbs a, 0x8C, .abs a, 4⟩, ⟨.styZpx b, 0x94, .zpx b, 4⟩]

/-- INC (R250). -/
def incForms (b : Byte) (a : Word) : List Form :=
  [⟨.incZp b, 0xE6, .zp b, 5⟩, ⟨.incAbs a, 0xEE, .abs a, 6⟩, ⟨.incZpx b, 0xF6, .zpx b, 6⟩,
   ⟨.incAbsx a, 0xFE, .absx a, 7⟩]

/-- DEC (R251). -/
def decForms (b : Byte) (a : Word) : List Form :=
  [⟨.decZp b, 0xC6, .zp b, 5⟩, ⟨.decAbs a, 0xCE, .abs a, 6⟩, ⟨.decZpx b, 0xD6, .zpx b, 6⟩,
   ⟨.decAbsx a, 0xDE, .absx a, 7⟩]

/-- ASL (R290). -/
def aslForms (b : Byte) (a : Word) : List Form :=
  [⟨.aslZp b, 0x06, .zp b, 5⟩, ⟨.aslAbs a, 0x0E, .abs a, 6⟩, ⟨.aslZpx b, 0x16, .zpx b, 6⟩,
   ⟨.aslAbsx a, 0x1E, .absx a, 7⟩]

/-- LSR (R291). -/
def lsrForms (b : Byte) (a : Word) : List Form :=
  [⟨.lsrZp b, 0x46, .zp b, 5⟩, ⟨.lsrAbs a, 0x4E, .abs a, 6⟩, ⟨.lsrZpx b, 0x56, .zpx b, 6⟩,
   ⟨.lsrAbsx a, 0x5E, .absx a, 7⟩]

/-- ROL (R292). -/
def rolForms (b : Byte) (a : Word) : List Form :=
  [⟨.rolZp b, 0x26, .zp b, 5⟩, ⟨.rolAbs a, 0x2E, .abs a, 6⟩, ⟨.rolZpx b, 0x36, .zpx b, 6⟩,
   ⟨.rolAbsx a, 0x3E, .absx a, 7⟩]

/-- ROR (R293). -/
def rorForms (b : Byte) (a : Word) : List Form :=
  [⟨.rorZp b, 0x66, .zp b, 5⟩, ⟨.rorAbs a, 0x6E, .abs a, 6⟩, ⟨.rorZpx b, 0x76, .zpx b, 6⟩,
   ⟨.rorAbsx a, 0x7E, .absx a, 7⟩]

/-- SLO (R364). -/
def sloForms (b : Byte) (a : Word) : List Form :=
  [⟨.sloIndx b, 0x03, .indx b, 8⟩, ⟨.sloZp b, 0x07, .zp b, 5⟩, ⟨.sloAbs a, 0x0F, .abs a, 6⟩,
   ⟨.sloIndy b, 0x13, .indy b, 8⟩, ⟨.sloZpx b, 0x17, .zpx b, 6⟩, ⟨.sloAbsy a, 0x1B, .absy a, 7⟩,
   ⟨.sloAbsx a, 0x1F, .absx a, 7⟩]

/-- RLA (R365). -/
def rlaForms (b : Byte) (a : Word) : List Form :=
  [⟨.rlaIndx b, 0x23, .indx b, 8⟩, ⟨.rlaZp b, 0x27, .zp b, 5⟩, ⟨.rlaAbs a, 0x2F, .abs a, 6⟩,
   ⟨.rlaIndy b, 0x33, .indy b, 8⟩, ⟨.rlaZpx b, 0x37, .zpx b, 6⟩, ⟨.rlaAbsy a, 0x3B, .absy a, 7⟩,
   ⟨.rlaAbsx a, 0x3F, .absx a, 7⟩]

/-- SRE (R366). -/
def sreForms (b : Byte) (a : Word) : List Form :=
  [⟨.sreIndx b, 0x43, .indx b, 8⟩, ⟨.sreZp b, 0x47, .zp b, 5⟩, ⟨.sreAbs a, 0x4F, .abs a, 6⟩,
   ⟨.sreIndy b, 0x53, .indy b, 8⟩, ⟨.sreZpx b, 0x57, .zpx b, 6⟩, ⟨.sreAbsy a, 0x5B, .absy a, 7⟩,
   ⟨.sreAbsx a, 0x5F, .absx a, 7⟩]

/-- RRA (R367). -/
def rraForms (b : Byte) (a : Word) : List Form :=
  [⟨.rraIndx b, 0x63, .indx b, 8⟩, ⟨.rraZp b, 0x67, .zp b, 5⟩, ⟨.rraAbs a, 0x6F, .abs a, 6⟩,
   ⟨.rraIndy b, 0x73, .indy b, 8⟩, ⟨.rraZpx b, 0x77, .zpx b, 6⟩, ⟨.rraAbsy a, 0x7B, .absy a, 7⟩,
   ⟨.rraAbsx a, 0x7F, .absx a, 7⟩]

/-- SAX (R368). -/
def saxForms (b : Byte) (a : Word) : List Form :=
  [⟨.saxIndx b, 0x83, .indx b, 6⟩, ⟨.saxZp b, 0x87, .zp b, 3⟩, ⟨.saxAbs a, 0x8F, .abs a, 4⟩,
   ⟨.saxZpy b, 0x97, .zpy b, 4⟩]

/-- LAX (R369). -/
def laxForms (b : Byte) (a : Word) : List Form :=
  [⟨.laxIndx b, 0xA3, .indx b, 6⟩, ⟨.laxZp b, 0xA7, .zp b, 3⟩, ⟨.laxAbs a, 0xAF, .abs a, 4⟩,
   ⟨.laxIndy b, 0xB3, .indy b, 5⟩, ⟨.laxZpy b, 0xB7, .zpy b, 4⟩, ⟨.laxAbsy a, 0xBF, .absy a, 4⟩]

/-- DCP (R370). -/
def dcpForms (b : Byte) (a : Word) : List Form :=
  [⟨.dcpIndx b, 0xC3, .indx b, 8⟩, ⟨.dcpZp b, 0xC7, .zp b, 5⟩, ⟨.dcpAbs a, 0xCF, .abs a, 6⟩,
   ⟨.dcpIndy b, 0xD3, .indy b, 8⟩, ⟨.dcpZpx b, 0xD7, .zpx b, 6⟩, ⟨.dcpAbsy a, 0xDB, .absy a, 7⟩,
   ⟨.dcpAbsx a, 0xDF, .absx a, 7⟩]

/-- ISC (R371). -/
def iscForms (b : Byte) (a : Word) : List Form :=
  [⟨.iscIndx b, 0xE3, .indx b, 8⟩, ⟨.iscZp b, 0xE7, .zp b, 5⟩, ⟨.iscAbs a, 0xEF, .abs a, 6⟩,
   ⟨.iscIndy b, 0xF3, .indy b, 8⟩, ⟨.iscZpx b, 0xF7, .zpx b, 6⟩, ⟨.iscAbsy a, 0xFB, .absy a, 7⟩,
   ⟨.iscAbsx a, 0xFF, .absx a, 7⟩]

/-- ANC (R372). -/
def ancForms (b : Byte) (_a : Word) : List Form :=
  [⟨.ancImm0B b, 0x0B, .imm b, 2⟩, ⟨.ancImm2B b, 0x2B, .imm b, 2⟩]

/-- ALR (R373). -/
def alrForms (b : Byte) (_a : Word) : List Form :=
  [⟨.alrImm b, 0x4B, .imm b, 2⟩]

/-- ARR (R374). -/
def arrForms (b : Byte) (_a : Word) : List Form :=
  [⟨.arrImm b, 0x6B, .imm b, 2⟩]

/-- AXS (R375). -/
def axsForms (b : Byte) (_a : Word) : List Form :=
  [⟨.axsImm b, 0xCB, .imm b, 2⟩]

/-- The unofficial copy of SBC (R376). -/
def sbcCopyForms (b : Byte) (_a : Word) : List Form :=
  [⟨.sbcImmEB b, 0xEB, .imm b, 2⟩]

/-- The unofficial NOPs with an operand (R362). -/
def nopReadForms (b : Byte) (a : Word) : List Form :=
  [⟨.nopZp04 b, 0x04, .zp b, 3⟩, ⟨.nopAbs a, 0x0C, .abs a, 4⟩, ⟨.nopZpx14 b, 0x14, .zpx b, 4⟩,
   ⟨.nopAbsx1C a, 0x1C, .absx a, 4⟩, ⟨.nopZpx34 b, 0x34, .zpx b, 4⟩, ⟨.nopAbsx3C a, 0x3C, .absx a, 4⟩,
   ⟨.nopZp44 b, 0x44, .zp b, 3⟩, ⟨.nopZpx54 b, 0x54, .zpx b, 4⟩, ⟨.nopAbsx5C a, 0x5C, .absx a, 4⟩,
   ⟨.nopZp64 b, 0x64, .zp b, 3⟩, ⟨.nopZpx74 b, 0x74, .zpx b, 4⟩, ⟨.nopAbsx7C a, 0x7C, .absx a, 4⟩,
   ⟨.nopImm80 b, 0x80, .imm b, 2⟩, ⟨.nopImm82 b, 0x82, .imm b, 2⟩, ⟨.nopImm89 b, 0x89, .imm b, 2⟩,
   ⟨.nopImmC2 b, 0xC2, .imm b, 2⟩, ⟨.nopZpxD4 b, 0xD4, .zpx b, 4⟩, ⟨.nopAbsxDC a, 0xDC, .absx a, 4⟩,
   ⟨.nopImmE2 b, 0xE2, .imm b, 2⟩, ⟨.nopZpxF4 b, 0xF4, .zpx b, 4⟩, ⟨.nopAbsxFC a, 0xFC, .absx a, 4⟩]

/-- The unofficial NOPs of one byte (R361). -/
def nopImplied : List (Instr × Byte) :=
  [(.nopImpl1A, 0x1A), (.nopImpl3A, 0x3A), (.nopImpl5A, 0x5A), (.nopImpl7A, 0x7A), (.nopImplDA, 0xDA),
   (.nopImplFA, 0xFA)]

/-- The 85 stable unofficial instructions with their opcodes (R360). -/
def gatedInstrs (b : Byte) (a : Word) : List (Instr × Byte) :=
  [(.sloIndx b, 0x03), (.nopZp04 b, 0x04), (.sloZp b, 0x07), (.ancImm0B b, 0x0B), (.nopAbs a, 0x0C),
   (.sloAbs a, 0x0F), (.sloIndy b, 0x13), (.nopZpx14 b, 0x14), (.sloZpx b, 0x17), (.nopImpl1A, 0x1A),
   (.sloAbsy a, 0x1B), (.nopAbsx1C a, 0x1C), (.sloAbsx a, 0x1F), (.rlaIndx b, 0x23), (.rlaZp b, 0x27),
   (.ancImm2B b, 0x2B), (.rlaAbs a, 0x2F), (.rlaIndy b, 0x33), (.nopZpx34 b, 0x34), (.rlaZpx b, 0x37),
   (.nopImpl3A, 0x3A), (.rlaAbsy a, 0x3B), (.nopAbsx3C a, 0x3C), (.rlaAbsx a, 0x3F), (.sreIndx b, 0x43),
   (.nopZp44 b, 0x44), (.sreZp b, 0x47), (.alrImm b, 0x4B), (.sreAbs a, 0x4F), (.sreIndy b, 0x53)] ++
  [(.nopZpx54 b, 0x54), (.sreZpx b, 0x57), (.nopImpl5A, 0x5A), (.sreAbsy a, 0x5B), (.nopAbsx5C a, 0x5C),
   (.sreAbsx a, 0x5F), (.rraIndx b, 0x63), (.nopZp64 b, 0x64), (.rraZp b, 0x67), (.arrImm b, 0x6B),
   (.rraAbs a, 0x6F), (.rraIndy b, 0x73), (.nopZpx74 b, 0x74), (.rraZpx b, 0x77), (.nopImpl7A, 0x7A),
   (.rraAbsy a, 0x7B), (.nopAbsx7C a, 0x7C), (.rraAbsx a, 0x7F), (.nopImm80 b, 0x80), (.nopImm82 b, 0x82),
   (.saxIndx b, 0x83), (.saxZp b, 0x87), (.nopImm89 b, 0x89), (.saxAbs a, 0x8F), (.saxZpy b, 0x97),
   (.laxIndx b, 0xA3), (.laxZp b, 0xA7), (.laxAbs a, 0xAF), (.laxIndy b, 0xB3), (.laxZpy b, 0xB7)] ++
  [(.laxAbsy a, 0xBF), (.nopImmC2 b, 0xC2), (.dcpIndx b, 0xC3), (.dcpZp b, 0xC7), (.axsImm b, 0xCB),
   (.dcpAbs a, 0xCF), (.dcpIndy b, 0xD3), (.nopZpxD4 b, 0xD4), (.dcpZpx b, 0xD7), (.nopImplDA, 0xDA),
   (.dcpAbsy a, 0xDB), (.nopAbsxDC a, 0xDC), (.dcpAbsx a, 0xDF), (.nopImmE2 b, 0xE2), (.iscIndx b, 0xE3),
   (.iscZp b, 0xE7), (.sbcImmEB b, 0xEB), (.iscAbs a, 0xEF), (.iscIndy b, 0xF3), (.nopZpxF4 b, 0xF4),
   (.iscZpx b, 0xF7), (.nopImplFA, 0xFA), (.iscAbsy a, 0xFB), (.nopAbsxFC a, 0xFC), (.iscAbsx a, 0xFF)]

/-- The 12 JAM and 8 unstable instructions with their opcodes (R380, R381). -/
def faultingInstrs (b : Byte) (a : Word) : List (Instr × Byte) :=
  [(.jam02, 0x02), (.jam12, 0x12), (.jam22, 0x22), (.jam32, 0x32), (.jam42, 0x42), (.jam52, 0x52),
   (.jam62, 0x62), (.jam72, 0x72), (.aneImm b, 0x8B), (.jam92, 0x92), (.shaIndy b, 0x93),
   (.tasAbsy a, 0x9B), (.shyAbsx a, 0x9C), (.shxAbsy a, 0x9E), (.shaAbsy a, 0x9F), (.lxaImm b, 0xAB),
   (.jamB2, 0xB2), (.lasAbsy a, 0xBB), (.jamD2, 0xD2), (.jamF2, 0xF2)]

/-- The reading forms with a page-crossing penalty or none: read-only instructions (R188). -/
def readForms (b : Byte) (a : Word) : List Form :=
  ldaForms b a ++ ldxForms b a ++ ldyForms b a ++ adcForms b a ++ sbcForms b a ++ andForms b a ++ oraForms b a ++
    eorForms b a ++ cmpForms b a ++ cpxForms b a ++ cpyForms b a ++ bitForms b a ++ laxForms b a ++ nopReadForms b a ++
    ancForms b a ++ alrForms b a ++ arrForms b a ++ axsForms b a ++ sbcCopyForms b a

/-- The storing forms (R204 to R206, R368). -/
def storeForms (b : Byte) (a : Word) : List Form :=
  staForms b a ++ stxForms b a ++ styForms b a ++ saxForms b a

/-- The read-modify-write forms (R250, R251, R290 to R293, R364 to R367, R370, R371). -/
def rmwForms (b : Byte) (a : Word) : List Form :=
  incForms b a ++ decForms b a ++ aslForms b a ++ lsrForms b a ++ rolForms b a ++ rorForms b a ++ sloForms b a ++
    rlaForms b a ++ sreForms b a ++ rraForms b a ++ dcpForms b a ++ iscForms b a

/-- The four byte registers (R31 to R33). -/
inductive Reg where
  | a
  | x
  | y
  | s
deriving DecidableEq, Repr

/-- The six flags (R35). -/
inductive FlagName where
  | c
  | z
  | i
  | d
  | v
  | n
deriving DecidableEq, Repr

/-- A register's value. -/
def Cpu.reg (k : Cpu) : Reg → Byte
  | .a => k.a
  | .x => k.x
  | .y => k.y
  | .s => k.s

/-- A flag's value. -/
def Flags.flag (p : Flags) : FlagName → Bool
  | .c => p.c
  | .z => p.z
  | .i => p.i
  | .d => p.d
  | .v => p.v
  | .n => p.n

/-- The registers an instruction's rule writes, its last "Operands" words (files 40 to 46). -/
def writesReg : Instr → List Reg
  | .brk | .php | .jsr _ | .plp | .rti | .pha | .rts | .txs => [.s]
  | .oraIndx _ | .sloIndx _ | .oraZp _ | .sloZp _ | .oraImm _ | .aslAcc | .ancImm0B _ | .oraAbs _ | .sloAbs _
  | .oraIndy _ | .sloIndy _ | .oraZpx _ | .sloZpx _ | .oraAbsy _ | .sloAbsy _ | .oraAbsx _ | .sloAbsx _
  | .andIndx _ | .rlaIndx _ | .andZp _ | .rlaZp _ | .andImm _ | .rolAcc | .ancImm2B _ | .andAbs _ | .rlaAbs _
  | .andIndy _ | .rlaIndy _ | .andZpx _ | .rlaZpx _ | .andAbsy _ | .rlaAbsy _ | .andAbsx _ | .rlaAbsx _
  | .eorIndx _ | .sreIndx _ | .eorZp _ | .sreZp _ | .eorImm _ | .lsrAcc | .alrImm _ | .eorAbs _ | .sreAbs _
  | .eorIndy _ | .sreIndy _ | .eorZpx _ | .sreZpx _ | .eorAbsy _ | .sreAbsy _ | .eorAbsx _ | .sreAbsx _
  | .adcIndx _ | .rraIndx _ | .adcZp _ | .rraZp _ | .adcImm _ | .rorAcc | .arrImm _ | .adcAbs _ | .rraAbs _
  | .adcIndy _ | .rraIndy _ | .adcZpx _ | .rraZpx _ | .adcAbsy _ | .rraAbsy _ | .adcAbsx _ | .rraAbsx _ | .txa
  | .tya | .ldaIndx _ | .ldaZp _ | .ldaImm _ | .ldaAbs _ | .ldaIndy _ | .ldaZpx _ | .ldaAbsy _ | .ldaAbsx _
  | .sbcIndx _ | .iscIndx _ | .sbcZp _ | .iscZp _ | .sbcImm _ | .sbcImmEB _ | .sbcAbs _ | .iscAbs _ | .sbcIndy _
  | .iscIndy _ | .sbcZpx _ | .iscZpx _ | .sbcAbsy _ | .iscAbsy _ | .sbcAbsx _ | .iscAbsx _ => [.a]
  | .jam02 | .nopZp04 _ | .aslZp _ | .nopAbs _ | .aslAbs _ | .bpl _ | .jam12 | .nopZpx14 _ | .aslZpx _ | .clc
  | .nopImpl1A | .nopAbsx1C _ | .aslAbsx _ | .jam22 | .bitZp _ | .rolZp _ | .bitAbs _ | .rolAbs _ | .bmi _ | .jam32
  | .nopZpx34 _ | .rolZpx _ | .sec | .nopImpl3A | .nopAbsx3C _ | .rolAbsx _ | .jam42 | .nopZp44 _ | .lsrZp _
  | .jmpAbs _ | .lsrAbs _ | .bvc _ | .jam52 | .nopZpx54 _ | .lsrZpx _ | .cli | .nopImpl5A | .nopAbsx5C _
  | .lsrAbsx _ | .jam62 | .nopZp64 _ | .rorZp _ | .jmpInd _ | .rorAbs _ | .bvs _ | .jam72 | .nopZpx74 _ | .rorZpx _
  | .sei | .nopImpl7A | .nopAbsx7C _ | .rorAbsx _ | .nopImm80 _ | .staIndx _ | .nopImm82 _ | .saxIndx _ | .styZp _
  | .staZp _ | .stxZp _ | .saxZp _ | .nopImm89 _ | .aneImm _ | .styAbs _ | .staAbs _ | .stxAbs _ | .saxAbs _
  | .bcc _ | .staIndy _ | .jam92 | .shaIndy _ | .styZpx _ | .staZpx _ | .stxZpy _ | .saxZpy _ | .staAbsy _
  | .tasAbsy _ | .shyAbsx _ | .staAbsx _ | .shxAbsy _ | .shaAbsy _ | .lxaImm _ | .bcs _ | .jamB2 | .clv
  | .lasAbsy _ | .cpyImm _ | .cmpIndx _ | .nopImmC2 _ | .dcpIndx _ | .cpyZp _ | .cmpZp _ | .decZp _ | .dcpZp _
  | .cmpImm _ | .cpyAbs _ | .cmpAbs _ | .decAbs _ | .dcpAbs _ | .bne _ | .cmpIndy _ | .jamD2 | .dcpIndy _
  | .nopZpxD4 _ | .cmpZpx _ | .decZpx _ | .dcpZpx _ | .cld | .cmpAbsy _ | .nopImplDA | .dcpAbsy _ | .nopAbsxDC _
  | .cmpAbsx _ | .decAbsx _ | .dcpAbsx _ | .cpxImm _ | .nopImmE2 _ | .cpxZp _ | .incZp _ | .nop | .cpxAbs _
  | .incAbs _ | .beq _ | .jamF2 | .nopZpxF4 _ | .incZpx _ | .sed | .nopImplFA | .nopAbsxFC _ | .incAbsx _ => []
  | .pla => [.a, .s]
  | .dey | .ldyImm _ | .ldyZp _ | .tay | .ldyAbs _ | .ldyZpx _ | .ldyAbsx _ | .iny => [.y]
  | .ldxImm _ | .ldxZp _ | .tax | .ldxAbs _ | .ldxZpy _ | .tsx | .ldxAbsy _ | .dex | .axsImm _ | .inx => [.x]
  | .laxIndx _ | .laxZp _ | .laxAbs _ | .laxIndy _ | .laxZpy _ | .laxAbsy _ => [.a, .x]

/-- The flags an instruction's rule writes, its "Flags" line (files 40 to 46). -/
def writesFlag : Instr → List FlagName
  | .brk | .cli | .sei => [.i]
  | .oraIndx _ | .oraZp _ | .oraImm _ | .oraAbs _ | .oraIndy _ | .oraZpx _ | .oraAbsy _ | .oraAbsx _ | .andIndx _
  | .andZp _ | .andImm _ | .andAbs _ | .andIndy _ | .andZpx _ | .andAbsy _ | .andAbsx _ | .eorIndx _ | .eorZp _
  | .eorImm _ | .eorAbs _ | .eorIndy _ | .eorZpx _ | .eorAbsy _ | .eorAbsx _ | .pla | .dey | .txa | .tya
  | .ldyImm _ | .ldaIndx _ | .ldxImm _ | .laxIndx _ | .ldyZp _ | .ldaZp _ | .ldxZp _ | .laxZp _ | .tay | .ldaImm _
  | .tax | .ldyAbs _ | .ldaAbs _ | .ldxAbs _ | .laxAbs _ | .ldaIndy _ | .laxIndy _ | .ldyZpx _ | .ldaZpx _
  | .ldxZpy _ | .laxZpy _ | .ldaAbsy _ | .tsx | .ldyAbsx _ | .ldaAbsx _ | .ldxAbsy _ | .laxAbsy _ | .decZp _ | .iny
  | .dex | .decAbs _ | .decZpx _ | .decAbsx _ | .incZp _ | .inx | .incAbs _ | .incZpx _ | .incAbsx _ => [.n, .z]
  | .jam02 | .nopZp04 _ | .php | .nopAbs _ | .bpl _ | .jam12 | .nopZpx14 _ | .nopImpl1A | .nopAbsx1C _ | .jsr _
  | .jam22 | .bmi _ | .jam32 | .nopZpx34 _ | .nopImpl3A | .nopAbsx3C _ | .jam42 | .nopZp44 _ | .pha | .jmpAbs _
  | .bvc _ | .jam52 | .nopZpx54 _ | .nopImpl5A | .nopAbsx5C _ | .rts | .jam62 | .nopZp64 _ | .jmpInd _ | .bvs _
  | .jam72 | .nopZpx74 _ | .nopImpl7A | .nopAbsx7C _ | .nopImm80 _ | .staIndx _ | .nopImm82 _ | .saxIndx _
  | .styZp _ | .staZp _ | .stxZp _ | .saxZp _ | .nopImm89 _ | .aneImm _ | .styAbs _ | .staAbs _ | .stxAbs _
  | .saxAbs _ | .bcc _ | .staIndy _ | .jam92 | .shaIndy _ | .styZpx _ | .staZpx _ | .stxZpy _ | .saxZpy _
  | .staAbsy _ | .txs | .tasAbsy _ | .shyAbsx _ | .staAbsx _ | .shxAbsy _ | .shaAbsy _ | .lxaImm _ | .bcs _
  | .jamB2 | .lasAbsy _ | .nopImmC2 _ | .bne _ | .jamD2 | .nopZpxD4 _ | .nopImplDA | .nopAbsxDC _ | .nopImmE2 _
  | .nop | .beq _ | .jamF2 | .nopZpxF4 _ | .nopImplFA | .nopAbsxFC _ => []
  | .sloIndx _ | .aslZp _ | .sloZp _ | .aslAcc | .ancImm0B _ | .aslAbs _ | .sloAbs _ | .sloIndy _ | .aslZpx _
  | .sloZpx _ | .sloAbsy _ | .aslAbsx _ | .sloAbsx _ | .rlaIndx _ | .rolZp _ | .rlaZp _ | .rolAcc | .ancImm2B _
  | .rolAbs _ | .rlaAbs _ | .rlaIndy _ | .rolZpx _ | .rlaZpx _ | .rlaAbsy _ | .rolAbsx _ | .rlaAbsx _ | .sreIndx _
  | .lsrZp _ | .sreZp _ | .lsrAcc | .alrImm _ | .lsrAbs _ | .sreAbs _ | .sreIndy _ | .lsrZpx _ | .sreZpx _
  | .sreAbsy _ | .lsrAbsx _ | .sreAbsx _ | .rorZp _ | .rorAcc | .rorAbs _ | .rorZpx _ | .rorAbsx _ | .cpyImm _
  | .cmpIndx _ | .dcpIndx _ | .cpyZp _ | .cmpZp _ | .dcpZp _ | .cmpImm _ | .axsImm _ | .cpyAbs _ | .cmpAbs _
  | .dcpAbs _ | .cmpIndy _ | .dcpIndy _ | .cmpZpx _ | .dcpZpx _ | .cmpAbsy _ | .dcpAbsy _ | .cmpAbsx _ | .dcpAbsx _
  | .cpxImm _ | .cpxZp _ | .cpxAbs _ => [.n, .z, .c]
  | .clc | .sec => [.c]
  | .bitZp _ | .bitAbs _ => [.n, .v, .z]
  | .plp | .rti => [.n, .v, .d, .i, .z, .c]
  | .adcIndx _ | .rraIndx _ | .adcZp _ | .rraZp _ | .adcImm _ | .adcAbs _ | .rraAbs _ | .adcIndy _ | .rraIndy _
  | .adcZpx _ | .rraZpx _ | .adcAbsy _ | .rraAbsy _ | .adcAbsx _ | .rraAbsx _ | .sbcIndx _ | .iscIndx _ | .sbcZp _
  | .iscZp _ | .sbcImm _ | .sbcImmEB _ | .sbcAbs _ | .iscAbs _ | .sbcIndy _ | .iscIndy _ | .sbcZpx _ | .iscZpx _
  | .sbcAbsy _ | .iscAbsy _ | .sbcAbsx _ | .iscAbsx _ => [.n, .v, .z, .c]
  | .arrImm _ => [.n, .z, .c, .v]
  | .clv => [.v]
  | .cld | .sed => [.d]

/-- The addresses an instruction stores to (files 40 to 46): the effective address of a store or read-modify-write form, as its
meaning resolves it, or the stack cells a push names. -/
def storesTo : Instr → State → List Word
  | .sloIndx b, s => [(resolve (.indx b) (s.charge 0x03)).ea]
  | .aslZp b, s => [(resolve (.zp b) (s.charge 0x06)).ea]
  | .sloZp b, s => [(resolve (.zp b) (s.charge 0x07)).ea]
  | .aslAbs a, s => [(resolve (.abs a) (s.charge 0x0E)).ea]
  | .sloAbs a, s => [(resolve (.abs a) (s.charge 0x0F)).ea]
  | .sloIndy b, s => [(resolve (.indy b) (s.charge 0x13)).ea]
  | .aslZpx b, s => [(resolve (.zpx b) (s.charge 0x16)).ea]
  | .sloZpx b, s => [(resolve (.zpx b) (s.charge 0x17)).ea]
  | .sloAbsy a, s => [(resolve (.absy a) (s.charge 0x1B)).ea]
  | .aslAbsx a, s => [(resolve (.absx a) (s.charge 0x1E)).ea]
  | .sloAbsx a, s => [(resolve (.absx a) (s.charge 0x1F)).ea]
  | .rlaIndx b, s => [(resolve (.indx b) (s.charge 0x23)).ea]
  | .rolZp b, s => [(resolve (.zp b) (s.charge 0x26)).ea]
  | .rlaZp b, s => [(resolve (.zp b) (s.charge 0x27)).ea]
  | .rolAbs a, s => [(resolve (.abs a) (s.charge 0x2E)).ea]
  | .rlaAbs a, s => [(resolve (.abs a) (s.charge 0x2F)).ea]
  | .rlaIndy b, s => [(resolve (.indy b) (s.charge 0x33)).ea]
  | .rolZpx b, s => [(resolve (.zpx b) (s.charge 0x36)).ea]
  | .rlaZpx b, s => [(resolve (.zpx b) (s.charge 0x37)).ea]
  | .rlaAbsy a, s => [(resolve (.absy a) (s.charge 0x3B)).ea]
  | .rolAbsx a, s => [(resolve (.absx a) (s.charge 0x3E)).ea]
  | .rlaAbsx a, s => [(resolve (.absx a) (s.charge 0x3F)).ea]
  | .sreIndx b, s => [(resolve (.indx b) (s.charge 0x43)).ea]
  | .lsrZp b, s => [(resolve (.zp b) (s.charge 0x46)).ea]
  | .sreZp b, s => [(resolve (.zp b) (s.charge 0x47)).ea]
  | .lsrAbs a, s => [(resolve (.abs a) (s.charge 0x4E)).ea]
  | .sreAbs a, s => [(resolve (.abs a) (s.charge 0x4F)).ea]
  | .sreIndy b, s => [(resolve (.indy b) (s.charge 0x53)).ea]
  | .lsrZpx b, s => [(resolve (.zpx b) (s.charge 0x56)).ea]
  | .sreZpx b, s => [(resolve (.zpx b) (s.charge 0x57)).ea]
  | .sreAbsy a, s => [(resolve (.absy a) (s.charge 0x5B)).ea]
  | .lsrAbsx a, s => [(resolve (.absx a) (s.charge 0x5E)).ea]
  | .sreAbsx a, s => [(resolve (.absx a) (s.charge 0x5F)).ea]
  | .rraIndx b, s => [(resolve (.indx b) (s.charge 0x63)).ea]
  | .rorZp b, s => [(resolve (.zp b) (s.charge 0x66)).ea]
  | .rraZp b, s => [(resolve (.zp b) (s.charge 0x67)).ea]
  | .rorAbs a, s => [(resolve (.abs a) (s.charge 0x6E)).ea]
  | .rraAbs a, s => [(resolve (.abs a) (s.charge 0x6F)).ea]
  | .rraIndy b, s => [(resolve (.indy b) (s.charge 0x73)).ea]
  | .rorZpx b, s => [(resolve (.zpx b) (s.charge 0x76)).ea]
  | .rraZpx b, s => [(resolve (.zpx b) (s.charge 0x77)).ea]
  | .rraAbsy a, s => [(resolve (.absy a) (s.charge 0x7B)).ea]
  | .rorAbsx a, s => [(resolve (.absx a) (s.charge 0x7E)).ea]
  | .rraAbsx a, s => [(resolve (.absx a) (s.charge 0x7F)).ea]
  | .staIndx b, s => [(resolve (.indx b) (s.charge 0x81)).ea]
  | .saxIndx b, s => [(resolve (.indx b) (s.charge 0x83)).ea]
  | .styZp b, s => [(resolve (.zp b) (s.charge 0x84)).ea]
  | .staZp b, s => [(resolve (.zp b) (s.charge 0x85)).ea]
  | .stxZp b, s => [(resolve (.zp b) (s.charge 0x86)).ea]
  | .saxZp b, s => [(resolve (.zp b) (s.charge 0x87)).ea]
  | .styAbs a, s => [(resolve (.abs a) (s.charge 0x8C)).ea]
  | .staAbs a, s => [(resolve (.abs a) (s.charge 0x8D)).ea]
  | .stxAbs a, s => [(resolve (.abs a) (s.charge 0x8E)).ea]
  | .saxAbs a, s => [(resolve (.abs a) (s.charge 0x8F)).ea]
  | .staIndy b, s => [(resolve (.indy b) (s.charge 0x91)).ea]
  | .styZpx b, s => [(resolve (.zpx b) (s.charge 0x94)).ea]
  | .staZpx b, s => [(resolve (.zpx b) (s.charge 0x95)).ea]
  | .stxZpy b, s => [(resolve (.zpy b) (s.charge 0x96)).ea]
  | .saxZpy b, s => [(resolve (.zpy b) (s.charge 0x97)).ea]
  | .staAbsy a, s => [(resolve (.absy a) (s.charge 0x99)).ea]
  | .staAbsx a, s => [(resolve (.absx a) (s.charge 0x9D)).ea]
  | .dcpIndx b, s => [(resolve (.indx b) (s.charge 0xC3)).ea]
  | .decZp b, s => [(resolve (.zp b) (s.charge 0xC6)).ea]
  | .dcpZp b, s => [(resolve (.zp b) (s.charge 0xC7)).ea]
  | .decAbs a, s => [(resolve (.abs a) (s.charge 0xCE)).ea]
  | .dcpAbs a, s => [(resolve (.abs a) (s.charge 0xCF)).ea]
  | .dcpIndy b, s => [(resolve (.indy b) (s.charge 0xD3)).ea]
  | .decZpx b, s => [(resolve (.zpx b) (s.charge 0xD6)).ea]
  | .dcpZpx b, s => [(resolve (.zpx b) (s.charge 0xD7)).ea]
  | .dcpAbsy a, s => [(resolve (.absy a) (s.charge 0xDB)).ea]
  | .decAbsx a, s => [(resolve (.absx a) (s.charge 0xDE)).ea]
  | .dcpAbsx a, s => [(resolve (.absx a) (s.charge 0xDF)).ea]
  | .iscIndx b, s => [(resolve (.indx b) (s.charge 0xE3)).ea]
  | .incZp b, s => [(resolve (.zp b) (s.charge 0xE6)).ea]
  | .iscZp b, s => [(resolve (.zp b) (s.charge 0xE7)).ea]
  | .incAbs a, s => [(resolve (.abs a) (s.charge 0xEE)).ea]
  | .iscAbs a, s => [(resolve (.abs a) (s.charge 0xEF)).ea]
  | .iscIndy b, s => [(resolve (.indy b) (s.charge 0xF3)).ea]
  | .incZpx b, s => [(resolve (.zpx b) (s.charge 0xF6)).ea]
  | .iscZpx b, s => [(resolve (.zpx b) (s.charge 0xF7)).ea]
  | .iscAbsy a, s => [(resolve (.absy a) (s.charge 0xFB)).ea]
  | .incAbsx a, s => [(resolve (.absx a) (s.charge 0xFE)).ea]
  | .iscAbsx a, s => [(resolve (.absx a) (s.charge 0xFF)).ea]
  | .pha, s | .php, s => [stackAddr s.cpu.s]
  | .jsr _, s => [stackAddr s.cpu.s, stackAddr (s.cpu.s - 1)]
  | .brk, s => [stackAddr s.cpu.s, stackAddr (s.cpu.s - 1), stackAddr (s.cpu.s - 2)]
  | .oraIndx _, _ | .jam02, _ | .nopZp04 _, _ | .oraZp _, _ | .oraImm _, _ | .aslAcc, _ | .ancImm0B _, _
  | .nopAbs _, _ | .oraAbs _, _ | .bpl _, _ | .oraIndy _, _ | .jam12, _ | .nopZpx14 _, _ | .oraZpx _, _ | .clc, _
  | .oraAbsy _, _ | .nopImpl1A, _ | .nopAbsx1C _, _ | .oraAbsx _, _ | .andIndx _, _ | .jam22, _ | .bitZp _, _
  | .andZp _, _ | .plp, _ | .andImm _, _ | .rolAcc, _ | .ancImm2B _, _ | .bitAbs _, _ | .andAbs _, _ | .bmi _, _
  | .andIndy _, _ | .jam32, _ | .nopZpx34 _, _ | .andZpx _, _ | .sec, _ | .andAbsy _, _ | .nopImpl3A, _
  | .nopAbsx3C _, _ | .andAbsx _, _ | .rti, _ | .eorIndx _, _ | .jam42, _ | .nopZp44 _, _ | .eorZp _, _
  | .eorImm _, _ | .lsrAcc, _ | .alrImm _, _ | .jmpAbs _, _ | .eorAbs _, _ | .bvc _, _ | .eorIndy _, _ | .jam52, _
  | .nopZpx54 _, _ | .eorZpx _, _ | .cli, _ | .eorAbsy _, _ | .nopImpl5A, _ | .nopAbsx5C _, _ | .eorAbsx _, _
  | .rts, _ | .adcIndx _, _ | .jam62, _ | .nopZp64 _, _ | .adcZp _, _ | .pla, _ | .adcImm _, _ | .rorAcc, _
  | .arrImm _, _ | .jmpInd _, _ | .adcAbs _, _ | .bvs _, _ | .adcIndy _, _ | .jam72, _ | .nopZpx74 _, _
  | .adcZpx _, _ | .sei, _ | .adcAbsy _, _ | .nopImpl7A, _ | .nopAbsx7C _, _ | .adcAbsx _, _ | .nopImm80 _, _
  | .nopImm82 _, _ | .dey, _ | .nopImm89 _, _ | .txa, _ | .aneImm _, _ | .bcc _, _ | .jam92, _ | .shaIndy _, _
  | .tya, _ | .txs, _ | .tasAbsy _, _ | .shyAbsx _, _ | .shxAbsy _, _ | .shaAbsy _, _ | .ldyImm _, _
  | .ldaIndx _, _ | .ldxImm _, _ | .laxIndx _, _ | .ldyZp _, _ | .ldaZp _, _ | .ldxZp _, _ | .laxZp _, _ | .tay, _
  | .ldaImm _, _ | .tax, _ | .lxaImm _, _ | .ldyAbs _, _ | .ldaAbs _, _ | .ldxAbs _, _ | .laxAbs _, _ | .bcs _, _
  | .ldaIndy _, _ | .jamB2, _ | .laxIndy _, _ | .ldyZpx _, _ | .ldaZpx _, _ | .ldxZpy _, _ | .laxZpy _, _ | .clv, _
  | .ldaAbsy _, _ | .tsx, _ | .lasAbsy _, _ | .ldyAbsx _, _ | .ldaAbsx _, _ | .ldxAbsy _, _ | .laxAbsy _, _
  | .cpyImm _, _ | .cmpIndx _, _ | .nopImmC2 _, _ | .cpyZp _, _ | .cmpZp _, _ | .iny, _ | .cmpImm _, _ | .dex, _
  | .axsImm _, _ | .cpyAbs _, _ | .cmpAbs _, _ | .bne _, _ | .cmpIndy _, _ | .jamD2, _ | .nopZpxD4 _, _
  | .cmpZpx _, _ | .cld, _ | .cmpAbsy _, _ | .nopImplDA, _ | .nopAbsxDC _, _ | .cmpAbsx _, _ | .cpxImm _, _
  | .sbcIndx _, _ | .nopImmE2 _, _ | .cpxZp _, _ | .sbcZp _, _ | .inx, _ | .sbcImm _, _ | .nop, _ | .sbcImmEB _, _
  | .cpxAbs _, _ | .sbcAbs _, _ | .beq _, _ | .sbcIndy _, _ | .jamF2, _ | .nopZpxF4 _, _ | .sbcZpx _, _ | .sed, _
  | .sbcAbsy _, _ | .nopImplFA, _ | .nopAbsxFC _, _ | .sbcAbsx _, _ => []

/-! ## Devices -/

/-- A CPU address of PPU register `r`: its `n`-th mirror in 0x2000–0x3FFF (R410). -/
def ppuMirror (n r : Nat) : Word := BitVec.ofNat 16 (0x2000 + 8 * n + r)

/-- The page map of a mirroring mode, pages A to D as 0 to 3: entry `q` is `page(q)` (the table of R133). -/
def pageMap : Mirroring → List Nat
  | .horizontal => [0, 0, 1, 1]
  | .vertical => [0, 1, 0, 1]
  | .singleA => [0, 0, 0, 0]
  | .singleB => [1, 1, 1, 1]
  | .fourScreen => [0, 1, 2, 3]

/-- Do two nametable addresses reach the same cell: the same page and the same offset in it (R132 to R134)? -/
abbrev sameNametableCell (m : Mirroring) (a b : BitVec 14) : Prop :=
  (pageMap m)[(a.extractLsb' 10 2).toNat]? = (pageMap m)[(b.extractLsb' 10 2).toNat]? ∧ a.extractLsb' 0 10 = b.extractLsb' 0 10

/-- Do two palette addresses reach the same cell: the same index modulo 32, or the same modulo 16 where that is a multiple of 4
(R135, R136)? -/
abbrev samePaletteCell (a b : BitVec 14) : Prop :=
  a.extractLsb' 0 5 = b.extractLsb' 0 5 ∨ (a.extractLsb' 0 4 = b.extractLsb' 0 4 ∧ a.extractLsb' 0 2 = 0)

/-- The clocks of a frame sequence: at which cycle, and whether the half frame is clocked too (R541, R542). The first list is the
4-step mode's. -/
def frameClocks : Bool → List (Nat × Bool)
  | false => [(7457, false), (14913, true), (22371, false), (29829, true)]
  | true => [(7457, false), (14913, true), (22371, false), (37281, true)]

/-- The length of a frame sequence (R541, R542). -/
def frameLength : Bool → Nat
  | false => 29830
  | true => 37282

/-- The DMC after a restart of its sample (R553). -/
def dmcRestarted (c : Dmc) : Dmc :=
  { c with curAddr := 0xC000 + 64 * c.addrReg.setWidth 16, remaining := BitVec.ofNat 12 (16 * c.lenReg.toNat + 1) }

/-- The DMC after a 0x4015 write and before its reader runs: bit 4 empties or restarts the sample, and the interrupt flag is
cleared (R536). -/
def dmcEnabled (d : Byte) (c : Dmc) : Dmc :=
  { (if d.getLsbD 4 = false then { c with remaining := 0 } else if c.remaining = 0 then dmcRestarted c else c) with
    irqFlag := false }

/-- The DMC after its reader has fetched `b`: the last byte of a sample restarts a looping one, and else raises the interrupt flag
where it is enabled (R557, R558). -/
def dmcAfterFetch (b : Byte) (c : Dmc) : Dmc :=
  let f := { c with buffer := b, bufferFull := true, remaining := c.remaining - 1,
                    curAddr := if c.curAddr = 0xFFFF then 0x8000 else c.curAddr + 1 }
  if c.remaining = 1 then
    if c.loop = true then dmcRestarted f else { f with irqFlag := c.irqFlag || c.irqEnable }
  else f

end Sys2Proof.Machine
end

