-- ==== Sys2Proof/Machine/HostOps.lean ====
section
/-! DEFINITION. What the host can do to the machine between steps (R690 to R696 of 53_scheduler_and_ports.md): load an image
(52_cartridge_mapper.md), power on and reset (70_reset_and_hazards.md), run and pause, save and load a state. Each is a
transition of its own at a step boundary. -/

namespace Sys2Proof.Machine

/-- `ResetSequence()` before its 7 cycles (R800): the units' resets, S, I, the NMI latch and the vector. -/
def resetEntry (s : State) : State :=
  let s1 := { s with ppu := ppuReset s.ppu, apu := apuReset s.apu, mapper := mapperSlots s.cart s.mapper, nmiPending := false }
  let s2 := (s1.setS (s1.cpu.s - s1.params.resetSpDecrement)).setP { s1.cpu.p with i := true }
  let v := read16 resetVector s2
  v.2.setPc v.1

/-- `ResetSequence()` (R800). -/
def resetSequence (s : State) : State := advance 7 (resetEntry s)

/-- A reset request (R691): only with a mapper bound and no fault; paused or running. -/
def hostReset (s : State) : State :=
  if s.mapper.bound && s.fault.isNone then resetSequence s else s

/-- The PRG RAM at power-on: the fill, then the trainer at 0x7000 (R608, R632, D28). -/
def prgRamAtLoad (par : Params) (fill trainer : List Byte) : Memory :=
  if par.prgRamPresent then cellsWriteList (cellsOfList 0 fill) 0x1000 trainer else cellsOfList 0 fill

/-- The PPU at power-on (R65): zero but for the fills. -/
def ppuAtPowerOn (par : Params) : Ppu :=
  { Ppu.powerOn with
    ntRam := cellsOfList 0 par.vramFill,
    oam := cellsOfList 0 par.oamFill,
    palette := cellsOfList 0 (par.paletteFill.map (fun v => v.setWidth 6)) }

/-- The CPU at power-on (R49). PC is overwritten by the reset sequence; it keeps its old value until then. -/
def cpuAtPowerOn (par : Params) (pc : Word) : Cpu :=
  { a := par.powerOnCpu.a, x := par.powerOnCpu.x, y := par.powerOnCpu.y, s := par.powerOnCpu.s, pc := pc, p := par.powerOnCpu.p }

/-- Every field at its power-on value, with the cartridge in place: `PowerOn()` before its reset sequence (R801). `running`, the
parameters, the warning count and the draw count are kept (logs 17 and 24). RAM takes the one fill of the parameters at every
power-on (log 32). -/
def powerUp (fill trainer : List Byte) (s : State) : State :=
  { s with
    cpu := cpuAtPowerOn s.params s.cpu.pc,
    nmiPending := false, fault := none, cpuCycles := 0,
    ram := cellsOfList 0 s.params.ramFill,
    ports := { strobe := false, shift0 := 0x00, shift1 := 0x00 },
    ppu := ppuAtPowerOn s.params,
    apu := Apu.powerOn,
    mapper := mapperSlots s.cart
      { s.mapper with bound := true, prgRam := prgRamAtLoad s.params fill trainer,
                      chrRam := cellsOfList 0 s.params.chrRamFill },
    cost := 0, dmaCycles := 0, stallPending := 0 }

/-- `PowerOn()` (R801). -/
def powerOn (fill trainer : List Byte) (s : State) : State := resetSequence (powerUp fill trainer s)

/-- Byte `i` of an image; a missing byte is 0 (R601, R605). -/
def imageByte (img : List Byte) (i : Nat) : Byte := img.getD i 0

/-- `mapper_id` (R602): the high nibble is dropped when any of bytes 8 to 15 is not 0. -/
def imageMapperId (img : List Byte) : Byte :=
  let lo : Byte := imageByte img 6 >>> 4
  let hi : Byte := if ((img.drop 8).take 8).any (fun b => b != 0) then 0 else imageByte img 7 >>> 4
  (hi <<< 4) ||| lo

/-- `mirroring` (R603): the four-screen bit wins. -/
def imageMirroring (img : List Byte) : Mirroring :=
  if (imageByte img 6).getLsbD 3 then .fourScreen
  else if (imageByte img 6).getLsbD 0 then .vertical
  else .horizontal

/-- The length of the trainer (R604, R605). -/
def trainerLength (img : List Byte) : Nat := if (imageByte img 6).getLsbD 2 then 512 else 0

/-- The trainer's bytes, missing ones as 0 (R605). -/
def imageTrainer (img : List Byte) : List Byte :=
  let t := (img.drop 16).take (trainerLength img)
  t ++ List.replicate (trainerLength img - t.length) 0

/-- The cartridge an image describes (R602 to R605). Missing bytes are 0, which storage does not list. -/
def parseCart (par : Params) (img : List Byte) : Cart :=
  let n := (imageByte img 4).toNat
  let m := (imageByte img 5).toNat * (par.chrHeaderUnitKib / 4)
  let body := img.drop (16 + trainerLength img)
  { prgBanks := n,
    prg := cellsOfList 0 (body.take (16384 * n)),
    chrBanks := m,
    chr := cellsOfList 0 ((body.drop (16384 * n)).take (4096 * m)),
    mapperId := imageMapperId img,
    mirroring := imageMirroring img,
    battery := (imageByte img 6).getLsbD 1,
    trainer := (imageByte img 6).getLsbD 2 }

/-- What the loader reports to the error sink (R601, R630, R720). -/
inductive LoadError where
  | invalidFormat
  | unsupportedMapper
deriving DecidableEq, Repr

/-- A call the loader makes to the host (R601, R607, R630, R695). -/
inductive LoadCall where
  /-- `reportLoadProgress(percent)` -/
  | progress (percent : Rat)
  /-- `reportError(message)` -/
  | error (kind : LoadError) (message : String)
deriving DecidableEq, Repr

/-- The loader's outputs and what its calls carry (R607, R695); the banks, the mapper id, the mirroring and the battery flag are in
the state's cartridge. -/
structure LoadReport where
  isValid : Bool
  programBankCount : Nat
  characterBankCount : Nat
  /-- the errors reported, one call each -/
  errors : List LoadError
  /-- the text of an error call (O5; log 23) -/
  message : String
  /-- the percents reported before the error call, or before the place where it would be (O5; log 23) -/
  progressBefore : List Rat
  /-- the percents reported after it -/
  progressAfter : List Rat
deriving DecidableEq, Repr

/-- The calls a load makes to the host, in their order (R607, R695): progress calls stand before and after the error calls, any
number of each (log 23). -/
def LoadReport.calls (r : LoadReport) : List LoadCall :=
  r.progressBefore.map .progress ++ r.errors.map (.error · r.message) ++ r.progressAfter.map .progress

/-- The error a call reports, if it is an error call. -/
def LoadCall.error? : LoadCall → Option LoadError
  | .progress _ => none
  | .error kind _ => some kind

/-- Is a mapper id registered (R611)? -/
def mapperRegistered (id : Byte) : Bool := id == 0

/-- The machine with an image's cartridge put in: a mapper id that is not registered is served by the baseline mapper, with one
warning (R608, R630). -/
def insertImage (img : List Byte) (s : State) : State :=
  let c := parseCart s.params img
  { s with
    cart := c,
    mapper := { s.mapper with warnings := s.mapper.warnings + (if mapperRegistered c.mapperId then 0 else 1) } }

/-- The PRG RAM fill of a load: the battery RAM the host supplies, if the image has a battery (R632; log 25). -/
def loadFill (img : List Byte) (saved : Option (List Byte)) (par : Params) : List Byte :=
  if (parseCart par img).battery then saved.getD par.prgRamFill else par.prgRamFill

/-- A valid image put in and every field at its power-on value: a load before its reset sequence (R608, R801). -/
def loadedUp (img : List Byte) (saved : Option (List Byte)) (s : State) : State :=
  powerUp (loadFill img saved s.params) (imageTrainer img) (insertImage img s)

/-- What the loader reports of an image (R601, R607, R630), as the `n`-th transition of a session; `n` only names the free values of
its calls (O5; log 23). DESIGN CHOICE: the bank counts of an image without the magic are 0 and 0; R601 allocates no bank, and no rule
gives the counts (log 33). -/
def loadReport (n : Nat) (img : List Byte) (par : Params) : LoadReport :=
  let r : LoadReport :=
    { isValid := imageMagicOk img, programBankCount := 0, characterBankCount := 0, errors := [.invalidFormat],
      message := Config.errorMessage n,
      progressBefore := (Config.loadProgress n).1, progressAfter := (Config.loadProgress n).2 }
  if imageMagicOk img then
    { r with
      programBankCount := (parseCart par img).prgBanks, characterBankCount := (imageByte img 5).toNat,
      errors := if mapperRegistered (parseCart par img).mapperId then [] else [.unsupportedMapper] }
  else r

/-- The state after loading an image (R601, R608, R630): an invalid image changes nothing. `saved` is the battery RAM the host may
supply (R632; log 25). No call of the loader has a part in it (R695). -/
def afterLoad (img : List Byte) (saved : Option (List Byte)) (s : State) : State :=
  if imageMagicOk img then resetSequence (loadedUp img saved s) else s

/-- Loading an image, as the `n`-th transition of a session: what the host gets back, and the state after it (R607, R608, R695). -/
def loadImage (n : Nat) (img : List Byte) (saved : Option (List Byte)) (s : State) : LoadReport × State :=
  (loadReport n img s.params, afterLoad img saved s)

/-- One pixel (column `c`, row `r`) of tile `t` of CHR bank `m` (R606): derived from the CHR bytes, never stored. -/
def tilePixel (cart : Cart) (m t r c : Nat) : Nat :=
  let lo := cellsRead cart.chr (4096 * m + 16 * t + r)
  let hi := cellsRead cart.chr (4096 * m + 16 * t + 8 + r)
  twoBits (hi.getLsbD (7 - c)) (lo.getLsbD (7 - c))

/-- The host's running flag (R690). -/
def setRunning (r : Bool) (s : State) : State := { s with running := r }

/-- The version tag of this model's snapshots (log 16). -/
def snapshotVersion : Nat := 1

/-- A snapshot: a version tag and the state tuple of R77 (R696; log 16). -/
structure Snapshot where
  version : Nat
  saved : State
deriving DecidableEq, Repr

/-- Saving (R696): pauses the machine and answers a snapshot. A faulted machine may be saved: no core state changes (log 28). -/
def saveState (s : State) : Snapshot × State :=
  ({ version := snapshotVersion, saved := setRunning false s }, setRunning false s)

/-- How loading a state ends (R696, R720). -/
inductive LoadResult where
  /-- the machine is running: no load is made -/
  | notPaused
  /-- a fault is recorded: no state load is made, since a new image is the only way out of it (R46, R691; log 28) -/
  | faulted
  /-- `SerializationVersionMismatch`: nothing changes -/
  | versionMismatch
  | loaded (s : State)
deriving DecidableEq, Repr

/-- The state a snapshot puts in place of `s` (R77, R696). The cartridge configuration, the parameters (R76) and the binding of the
mapper to its image (R608, R631) are no part of the tuple and stay; so does the model's draw count (logs 16 and 29). -/
def restored (snap : Snapshot) (wasRunning : Bool) (s : State) : State :=
  { snap.saved with
    running := wasRunning, cart := s.cart, params := s.params, draws := s.draws,
    mapper := { snap.saved.mapper with bound := s.mapper.bound } }

/-- Loading a snapshot (R696). `wasRunning` is the running flag before the host paused for the load. A recorded fault is never
cleared (R46), so a faulted machine takes no state load (log 28). -/
def loadState (snap : Snapshot) (wasRunning : Bool) (s : State) : LoadResult :=
  if s.running then .notPaused
  else if s.fault.isSome then .faulted
  else if snap.version != snapshotVersion then .versionMismatch
  else .loaded (restored snap wasRunning s)

end Sys2Proof.Machine
end

