-- ==== Sys2Proof/Machine/Session.lean ====
section
/-! DEFINITION. The transitions of the block at a step boundary: the system step, and the host's own (R695 of
53_scheduler_and_ports.md), with what each gives back to the host. None of the host's runs inside a step. -/

namespace Sys2Proof.Machine

/-- The transitions taken at a step boundary (R650, R695). Controller input, the display sink and the audio sink take no transition
of their own: they are `Config.controllerInput` and the streams of Machine/Output.lean. -/
inductive Action where
  /-- one system step (R650) -/
  | step
  /-- load an image, with the battery RAM the host may supply (R608, R632) -/
  | loadImage (img : List Byte) (saved : Option (List Byte))
  /-- set the running flag (R690) -/
  | setRunning (r : Bool)
  /-- a reset request (R691) -/
  | reset
  /-- save the state (R696) -/
  | saveState
  /-- load a snapshot; the flag is `running` before the host paused for it (R696) -/
  | loadState (snap : Snapshot) (wasRunning : Bool)
deriving DecidableEq, Repr

/-- The state after a transition. One that is not allowed there changes nothing (R650, R690, R691, R696). -/
def act : Action → State → State
  | .step, s =>
    match Machine.step s with
    | .next t => t
    | .fault _ => s
    | .refused _ => s
  | .loadImage img saved, s => afterLoad img saved s
  | .setRunning r, s => Machine.setRunning r s
  | .reset, s => hostReset s
  | .saveState, s => (Machine.saveState s).2
  | .loadState snap wasRunning, s =>
    match Machine.loadState snap wasRunning s with
    | .loaded t => t
    | .notPaused => s
    | .faulted => s
    | .versionMismatch => s

/-- The state after a list of transitions, the first one first. -/
def session : List Action → State → State
  | [], s => s
  | a :: as, s => session as (act a s)

/-- What a transition gives back to the host (R695). Frames and samples go to the sinks instead: the streams of
Machine/Output.lean. -/
inductive Reply where
  /-- nothing (a step, the running flag, a reset) -/
  | nothing
  /-- the loader's outputs and its calls (R607) -/
  | load (r : LoadReport)
  /-- a snapshot (R696) -/
  | saved (snap : Snapshot)
  /-- how a state load ended (R696) -/
  | stateLoad (r : LoadResult)
deriving DecidableEq, Repr

/-- What the `n`-th transition of a session gives back (R695). -/
def reply (n : Nat) : Action → State → Reply
  | .step, _ => .nothing
  | .loadImage img saved, s => .load (Machine.loadImage n img saved s).1
  | .setRunning _, _ => .nothing
  | .reset, _ => .nothing
  | .saveState, s => .saved (Machine.saveState s).1
  | .loadState snap wasRunning, s => .stateLoad (Machine.loadState snap wasRunning s)

/-- What a list of transitions gives back, in their order, the first being the `n`-th of its session (R695). -/
def replies : Nat → List Action → State → List Reply
  | _, [], _ => []
  | n, a :: as, s => reply n a s :: replies (n + 1) as (act a s)

end Sys2Proof.Machine
end

