-- ==== Sys2Proof/Machine/Output.lean ====
section
/-! DEFINITION. The two output streams (R453, R692; R580 to R582, R693): what each `Advance(n)` gives the sinks. They
are functions of the state, and no core state depends on them. -/

namespace Sys2Proof.Machine

/-! ## The calls of `Advance(n)` a transition makes -/

/-- The calls of `DrainStalls()` (R653), each as its number of cycles and the state it runs from. -/
def drainCalls : Nat → State → List (Nat × State)
  | 0, _ => []
  | fuel + 1, s =>
    if s.stallPending == 0 then []
    else
      (s.stallPending, { s with stallPending := 0 }) ::
        drainCalls fuel (advance s.stallPending { s with stallPending := 0 })

/-- The calls of an advance and of the stalls it asks for (R650, R653). -/
def advanceCalls (n : Nat) (s : State) : List (Nat × State) :=
  (n, s) :: drainCalls ((advance n s).stallPending + 2) (advance n s)

/-- The calls of the interrupt check at the end of a step (R650). -/
def interruptCalls (s : State) : List (Nat × State) :=
  match pendingInterrupt s with
  | some k => advanceCalls 7 (enterInterrupt k s)
  | none => []

/-- The calls after an instruction that left `t` (R650): none once a fault is recorded. -/
def finishCalls (t : State) : List (Nat × State) :=
  if t.fault.isSome then []
  else
    advanceCalls (t.cost + t.dmaCycles) t ++ interruptCalls (drainStalls (advance (t.cost + t.dmaCycles) t))

/-- The calls of the step from `s` (R650), in their order; a state with no step makes none. -/
def stepCalls (s : State) : List (Nat × State) :=
  if s.fault.isNone && s.mapper.bound && s.running then
    match exec (fetch (clearLocals s)).1 (fetch (clearLocals s)).2 with
    | .next t => finishCalls t
    | _ => []
  else []

/-- The calls of a transition: those of a step, and the one of the reset sequence that a reset and a load run (R800, R801). -/
def actionCalls : Action → State → List (Nat × State)
  | .step, s => stepCalls s
  | .loadImage img saved, s => if imageMagicOk img then [(7, resetEntry (loadedUp img saved s))] else []
  | .reset, s => if s.mapper.bound && s.fault.isNone then [(7, resetEntry s)] else []
  | .setRunning _, _ => []
  | .saveState, _ => []
  | .loadState _ _, _ => []

/-! ## What a call gives the sinks -/

/-- The outputs of the five channels at an instant (R507, R522, R530, R551). -/
structure Levels where
  pulse1 : Nat
  pulse2 : Nat
  tri : Nat
  noise : Nat
  dmc : Nat
deriving DecidableEq, Repr

/-- The channel outputs of an APU state. -/
def levelsOf (a : Apu) : Levels :=
  { pulse1 := pulseOut true a.pulse1, pulse2 := pulseOut false a.pulse2, tri := triangleOut a.tri, noise := noiseOut a.noise,
    dmc := dmcOut a.dmc }

/-- The frame the dot at the current position offers to the display sink: `fb_front` right after the swap (R450, R453). -/
def dotFrames (s : State) : List (Cells 9) :=
  if s.ppu.scanline == 241 && s.ppu.dot == 1 then [(ppuTick s).ppu.fbFront] else []

/-- The frames `n` dots offer (R652). -/
def dotsFrames : Nat → State → List (Cells 9)
  | 0, _ => []
  | n + 1, s => dotFrames s ++ dotsFrames n (ppuTick s)

/-- The channel outputs after each of `n` APU ticks, the first at cycle `k` (R501, R652). -/
def ticksLevels : Nat → Nat → State → List Levels
  | 0, _, _ => []
  | n + 1, k, s => levelsOf (apuTick k s).apu :: ticksLevels n (k + 1) (apuTick k s)

/-- The frames one call of `Advance(n)` completes (R652). -/
def callFrames (c : Nat × State) : List (Cells 9) := dotsFrames (3 * c.1) c.2

/-- The channel outputs of one call of `Advance(n)`: the APU runs after the dots (R652). -/
def callLevels (c : Nat × State) : List Levels := ticksLevels c.1 c.2.cpuCycles (iterate ppuTick (3 * c.1) c.2)

/-- The frames a transition completes (R692). -/
def actionFrames (a : Action) (s : State) : List (Cells 9) := (actionCalls a s).flatMap callFrames

/-- The channel outputs of a transition, one for each CPU cycle it counts (R581, R652). -/
def actionLevels (a : Action) (s : State) : List Levels := (actionCalls a s).flatMap callLevels

/-- An output gathered over a list of transitions, in their order. -/
def overSession {α : Type} (out : Action → State → List α) : List Action → State → List α
  | [], _ => []
  | a :: as, s => out a s ++ overSession out as (act a s)

/-! ## The display sink -/

/-- A completed frame as 240 lines of 256 pixels, through `PALETTE_RGB` (R453). DESIGN CHOICE: the lines stand from the top down and
the pixels of a line from the left (log 15). -/
def pixelBuffer (fb : Cells 9) : List (Byte × Byte × Byte) :=
  (List.range (256 * 240)).map (fun i => Config.paletteRgb (cellsRead fb i))

/-- What the display sink receives over a list of transitions: `(pixelBuffer, skipFrame)` once per completed frame, the hint
being the host's for each frame (R453, R692). -/
def displayStream (skipFrame : Nat → Bool) (as : List Action) (s : State) : List (List (Byte × Byte × Byte) × Bool) :=
  (overSession actionFrames as s).zipIdx.map (fun f => (pixelBuffer f.1, skipFrame f.2))

/-! ## The audio sink -/

/-- `MIXER`: the amplitude of the five channel outputs (R580). -/
abbrev Mixer := Nat → Nat → Nat → Nat → Nat → Rat

/-- The default `MIXER` (R580), in exact arithmetic. -/
def defaultMixer : Mixer := fun p1 p2 t n d =>
  let pulse : Rat := if p1 + p2 = 0 then 0 else (9588 / 100 : Rat) / ((8128 : Rat) / ((p1 + p2 : Nat) : Rat) + 100)
  let tsum : Rat := (t : Rat) / 8227 + (n : Rat) / 12241 + (d : Rat) / 22638
  let tnd : Rat := if tsum = 0 then 0 else (15979 / 100 : Rat) / (1 / tsum + 100)
  pulse + tnd

/-- The amplitude at an instant (R580). -/
def amplitude (mix : Mixer) (l : Levels) : Rat := mix l.pulse1 l.pulse2 l.tri l.noise l.dmc

/-- The stream the APU produces over a list of transitions, one amplitude for each CPU cycle, resampled to `OUTPUT_RATE` (R581;
log 14). -/
def resampledStream (mix : Mixer) (as : List Action) (s : State) : List Rat :=
  Config.resample Config.outputRate ((overSession actionLevels as s).map (amplitude mix))

/-- The sound switch (R582): off, it silences the delivered samples, and does nothing else (log 14). -/
def soundSwitch (soundOn : Bool) (samples : List Rat) : List Rat := if soundOn then samples else samples.map fun _ => 0

/-- What the audio sink receives over a list of transitions (R581, R582, R693). -/
def sampleStream (mix : Mixer) (soundOn : Bool) (as : List Action) (s : State) : List Rat :=
  soundSwitch soundOn (resampledStream mix as s)

end Sys2Proof.Machine
end

