-- ==== Sys2Proof/Machine/Run.lean ====
section
/-! DEFINITION. A run and its end: `END_OF_RUN` is an argument a launch gives (R10, R694 of 53_scheduler_and_ports.md), and a run
ends at the first step boundary that meets it. -/

namespace Sys2Proof.Machine

/-- `END_OF_RUN` (R10, D37), OPEN: a launch's predicate on a step boundary. It is given the state before the step too, because the
suggested form asks what that step did (log 31). -/
abbrev EndOfRun := State → State → Bool

/-- Did the step that left state `s` enter an interrupt? The check reads the state just before the entry. -/
def entersInterrupt (s : State) : Bool :=
  match exec (fetch (clearLocals s)).1 (fetch (clearLocals s)).2 with
  | .next t => t.fault.isNone && (pendingInterrupt (drainStalls (advance (t.cost + t.dmaCycles) t))).isSome
  | _ => false

/-- `pc_at(E)`, the suggested form of END_OF_RUN (R694): PC is `e`, no fault is recorded and the step made no interrupt entry. -/
def endAtPc (e : Word) : EndOfRun := fun s t => t.cpu.pc == e && t.fault.isNone && !entersInterrupt s

/-- The step from `s` ends a run at `t` by `pc_at(E)` (R694). -/
def pcAt (e : Word) (s t : State) : Prop := step s = .next t ∧ endAtPc e s t = true

/-- What a run of a bounded number of steps comes to. -/
inductive RunResult where
  /-- the first boundary that meets END_OF_RUN -/
  | ended (t : State)
  /-- a fault was recorded before: no end of the run, it refutes the launch (R694, R705) -/
  | faulted (t : State)
  /-- a state with no step (R650) -/
  | stuck (s : State)
  /-- the steps are used up and no boundary met END_OF_RUN -/
  | unfinished (s : State)
deriving DecidableEq, Repr

/-- A run of at most `n` steps from `s` (R694). The state it starts from is no boundary of the run: no step has led to it. -/
def runUntil (stop : EndOfRun) : Nat → State → RunResult
  | 0, s => .unfinished s
  | n + 1, s =>
    match step s with
    | .next t => if t.fault.isSome then .faulted t else if stop s t then .ended t else runUntil stop n t
    | .fault _ => .stuck s
    | .refused _ => .stuck s

end Sys2Proof.Machine
end

