-- ==== Sys2Proof/Safety.lean ====
section
/-! DEFINITION. What counts as a safe run, in the terms claims use: a state whose next step is enabled, a run in which no
instruction faults, and the invariants of the machine's data. -/

namespace Sys2Proof.Machine

/-- The step is enabled (R650). -/
def State.enabled (s : State) : Prop := s.fault = none ∧ s.mapper.bound = true ∧ s.running = true

/-- A safe step: it answers a next state, and that state has no fault recorded (R46, R705). -/
def safeStep (s : State) : Prop := ∃ t, step s = .next t ∧ t.fault = none

/-- A safe run of `n` steps. -/
def safeRun : Nat → State → Prop
  | 0, s => s.fault = none
  | n + 1, s => ∃ t, step s = .next t ∧ t.fault = none ∧ safeRun n t

/-- Storage of `size` cells in canonical form. -/
def storageOk {w : Nat} (size : Nat) (m : Cells w) : Prop := Memory.wf m = true ∧ ∀ c ∈ m, c.1 < size

/-- Every storage of the machine is in canonical form and holds no cell beyond its size (R50, R59 to R61, R64, R72, R74); the
palette holds nothing in its four alias cells (R136). -/
structure State.StorageForm (s : State) : Prop where
  ram : storageOk 2048 s.ram
  ntRam : storageOk 4096 s.ppu.ntRam
  palette : storageOk 32 s.ppu.palette
  paletteAliases : ∀ c ∈ s.ppu.palette, paletteAlias c.1 = c.1
  oam : storageOk 256 s.ppu.oam
  fbBack : storageOk 61440 s.ppu.fbBack
  fbFront : storageOk 61440 s.ppu.fbFront
  prgRam : storageOk 8192 s.mapper.prgRam
  chrRam : storageOk 8192 s.mapper.chrRam
  prg : storageOk (16384 * s.cart.prgBanks) s.cart.prg
  chr : storageOk (4096 * s.cart.chrBanks) s.cart.chr

/-- The counters of the PPU keep their ranges (R58, R63). -/
structure Ppu.Ranges (p : Ppu) : Prop where
  scanline : p.scanline ≤ 261
  dot : p.dot ≤ 340
  sprCount : p.sprCount ≤ 8

/-- The counters of the APU keep their ranges: the frame sequencer within its sequence (R541, R542), the noise register never 0
(R529), the DMC's bits, bytes and timer (R551 to R553), and its reader in 0x8000–0xFFFF whenever a byte is left (R557). -/
structure Apu.Ranges (a : Apu) : Prop where
  frame : a.frame.cycle < if a.frame.mode then 37282 else 29830
  lfsr : a.noise.lfsr ≠ 0
  bitsLow : 1 ≤ a.dmc.bitsLeft.toNat
  bitsHigh : a.dmc.bitsLeft.toNat ≤ 8
  remaining : a.dmc.remaining.toNat ≤ 4081
  reader : a.dmc.remaining ≠ 0 → 0x8000 ≤ a.dmc.curAddr.toNat
  timerLow : 1 ≤ a.dmc.timer.toNat
  timerHigh : a.dmc.timer.toNat ≤ 428

/-- The machine's counters keep their ranges. -/
def State.Ranges (s : State) : Prop := s.ppu.Ranges ∧ s.apu.Ranges

/-- The mapper's slots are those of the baseline mapping (R620, R621). -/
def State.BaselineSlots (s : State) : Prop := s.mapper = mapperSlots s.cart s.mapper

end Sys2Proof.Machine
end

