-- ==== Sys2Proof/Certificates/Slice0/Obligations.lean ====
section
/-! DEFINITION. The statements for the provers, made from the numbered rules of spec/. -/

open Sys2Proof Sys2Proof.Machine

/-! ## Encoding -/

/-- R170, R172, R173, R186, R191: decoding the bytes of any instruction, whatever follows them, gives it back. -/
def Obligations.DecodeInvertsEncode : Prop :=
  ∀ (i : Instr) (rest : List Byte), decode (encode i ++ rest) = .ok (i, rest)

/-- R170, R173, R186: a decoded instruction encodes to the very bytes it was read from, so every word has one meaning. -/
def Obligations.EncodeInvertsDecode : Prop :=
  ∀ (bytes rest : List Byte) (i : Instr), decode bytes = .ok (i, rest) → encode i ++ rest = bytes

/-- R191: every byte value is a complete opcode; decoding answers an instruction exactly when the input holds as many bytes as
the opcode's mode asks, from 1 to 3. -/
def Obligations.DecodeRefusesOnlyShortInput : Prop :=
  (∀ op : Byte, 1 ≤ opcodeLength op ∧ opcodeLength op ≤ 3) ∧
  ∀ (op : Byte) (rest : List Byte),
    (opcodeLength op ≤ 1 + rest.length → ∃ i, decode (op :: rest) = .ok (i, rest.drop (opcodeLength op - 1))) ∧
    (1 + rest.length < opcodeLength op → decode (op :: rest) = .error (.operandMissing op))

/-- R186: words written out from the opcode map decode to the instructions they stand for, one of each family; and the map holds
151 official, 85 stable unofficial, 8 unstable and 12 JAM opcodes. -/
def Obligations.SpecWordsDecode : Prop :=
  decode [0xA9, 0x80] = .ok (.ldaImm 0x80, []) ∧
  decode [0x9D, 0x00, 0x02] = .ok (.staAbsx 0x0200, []) ∧
  decode [0xBA] = .ok (.tsx, []) ∧
  decode [0x08] = .ok (.php, []) ∧
  decode [0x71, 0x40] = .ok (.adcIndy 0x40, []) ∧
  decode [0x41, 0xFE] = .ok (.eorIndx 0xFE, []) ∧
  decode [0x2C, 0x02, 0x20] = .ok (.bitAbs 0x2002, []) ∧
  decode [0xF6, 0x10] = .ok (.incZpx 0x10, []) ∧
  decode [0x6E, 0x00, 0x04] = .ok (.rorAbs 0x0400, []) ∧
  decode [0xD0, 0xFC] = .ok (.bne 0xFC, []) ∧
  decode [0x6C, 0xFF, 0x02] = .ok (.jmpInd 0x02FF, []) ∧
  decode [0x78] = .ok (.sei, []) ∧
  decode [0x0C, 0x02, 0x20] = .ok (.nopAbs 0x2002, []) ∧
  decode [0xD3, 0x10] = .ok (.dcpIndy 0x10, []) ∧
  decode [0xB7, 0x20] = .ok (.laxZpy 0x20, []) ∧
  decode [0x92] = .ok (.jam92, []) ∧
  ((List.range 256).filter (fun n => opcodeClass (BitVec.ofNat 8 n) == .official)).length = 151 ∧
  ((List.range 256).filter (fun n => opcodeClass (BitVec.ofNat 8 n) == .unofficial)).length = 85 ∧
  ((List.range 256).filter (fun n => opcodeClass (BitVec.ofNat 8 n) == .unstable)).length = 8 ∧
  ((List.range 256).filter (fun n => opcodeClass (BitVec.ofNat 8 n) == .jam)).length = 12

/-! ## The step -/

/-- R650, R651: where the bytes at PC are those of an instruction whose opcode does not trap, an enabled step executes exactly
that instruction, PC still at its first byte, and then does what `finish` says. -/
def Obligations.StepRunsDecodedInstruction : Prop :=
  ∀ (s : State) (op : Byte) (rest : List Byte) (i : Instr),
    s.enabled → bytesAt s s.cpu.pc (op :: rest) → classTraps s.params (opcodeClass op) = false →
    decode (op :: rest) = .ok (i, []) →
    step s =
      match exec i (clearLocals s) with
      | .next t => .next (finish t)
      | .fault r => .fault r
      | .refused r => .refused r

/-- R705, R189: an enabled step whose opcode traps records the fault with PC0 and the opcode, and changes nothing else but the
model's own step-local fields, which are 0. -/
def Obligations.TrappingOpcodeRecordsTheFault : Prop :=
  ∀ (s : State) (op : Byte), s.enabled → peek s s.cpu.pc = some op → classTraps s.params (opcodeClass op) = true →
    step s = .next { clearLocals s with fault := some { pc := s.cpu.pc, opcode := op } }

/-- R650, R46, R631, R690: a state with a recorded fault, with no mapper bound or with the running flag 0 has no step. -/
def Obligations.StuckStatesStopByName : Prop :=
  (∀ (s : State) (f : FaultRecord), s.fault = some f → step s = .fault (.unimplementedOpcode f.pc f.opcode)) ∧
  (∀ s : State, s.fault = none → s.mapper.bound = false → step s = .fault .noMapper) ∧
  (∀ s : State, s.fault = none → s.mapper.bound = true → s.running = false → step s = .fault .paused)

/-- R650, R711 to R713: after an instruction that recorded no fault the devices advance by its cost and DMA cycles and the stalls
are drained; then an NMI that is pending is entered, else an IRQ if the line is high and I is 0, at most one, each for 7 cycles. -/
def Obligations.InstructionEndRunsDevicesThenChecksInterrupts : Prop :=
  ∀ t : State, t.fault = none →
    let u := drainStalls (advance (t.cost + t.dmaCycles) t)
    finish t = clearLocals
      (if u.nmiPending = true then drainStalls (advance 7 (enterInterrupt .nmi u))
       else if (u.apu.frame.irqFlag = true ∨ u.apu.dmc.irqFlag = true) ∧ u.cpu.p.i = false then
         drainStalls (advance 7 (enterInterrupt .irq u))
       else u)

/-- R702, R200: no instruction stops the machine by itself: on every state each one answers a next state. -/
def Obligations.EveryInstructionAnswersNext : Prop :=
  ∀ (i : Instr) (s : State), ∃ t, exec i s = .next t

/-- R652, R653: the stalls are drained to the last one in every state whose counters are in range. -/
def Obligations.DrainLeavesNoStall : Prop :=
  ∀ s : State, s.Ranges → (drainStalls s).stallPending = 0

/-- R654, R185, R581: with the default cycle table a step that records no fault takes at least two CPU cycles; and with any table
a step and a host reset count as many cycles as they give levels to the sound output. -/
def Obligations.EveryStepTakesTwoCycles : Prop :=
  (∀ s t : State, s.params.cycleTable = Params.cycles → step s = .next t → t.fault = none → s.cpuCycles + 2 ≤ t.cpuCycles) ∧
  (∀ s t : State, step s = .next t → t.cpuCycles = s.cpuCycles + (actionLevels .step s).length) ∧
  (∀ s : State, (hostReset s).cpuCycles = s.cpuCycles + (actionLevels .reset s).length)

/-! ## Instructions -/

/-- R201 to R203: LDA, LDX and LDY in every form. And what every operand form of every instruction rests on, in the numbers of R172
to R183: the length; the effective address from the operand bytes, X, Y and the pointer cells of page 0, indexed zero page and
pointers modulo 256, indexed absolute and indy modulo 65536; and whether the base and the effective address lie on different pages.
A reading form reads there, and pays one cycle more exactly when they do; a storing or read-modify-write form pays its table cost
(R188). -/
def Obligations.LoadResults : Prop :=
  ∀ (s : State) (b : Byte) (a : Word),
    (∀ f ∈ ldaForms b a, f.coded ∧ exec f.instr s =
      .next { (readM f s).2 with
        cpu := { s.cpu with a := (readM f s).1, p := nzOf s.cpu.p (readM f s).1, pc := nextPc f s } }) ∧
    (∀ f ∈ ldxForms b a, f.coded ∧ exec f.instr s =
      .next { (readM f s).2 with
        cpu := { s.cpu with x := (readM f s).1, p := nzOf s.cpu.p (readM f s).1, pc := nextPc f s } }) ∧
    (∀ f ∈ ldyForms b a, f.coded ∧ exec f.instr s =
      .next { (readM f s).2 with
        cpu := { s.cpu with y := (readM f s).1, p := nzOf s.cpu.p (readM f s).1, pc := nextPc f s } }) ∧
    (let b1 := b.toNat
     let x := s.cpu.x.toNat
     let y := s.cpu.y.toNat
     let pointer := fun p : Nat => 256 * (cellsRead s.ram ((p + 1) % 256)).toNat + (cellsRead s.ram p).toNat
     let place := fun ea : Nat => ({ ea := BitVec.ofNat 16 ea, crossed := false, st := s } : Resolved)
     let indexed := fun base index : Nat =>
       ({ ea := BitVec.ofNat 16 ((base + index) % 65536),
          crossed := decide (base / 256 ≠ (base + index) % 65536 / 256), st := s } : Resolved)
     resolve (.zp b) s = place b1 ∧
     resolve (.zpx b) s = place ((b1 + x) % 256) ∧
     resolve (.zpy b) s = place ((b1 + y) % 256) ∧
     resolve (.abs a) s = place a.toNat ∧
     resolve (.absx a) s = indexed a.toNat x ∧
     resolve (.absy a) s = indexed a.toNat y ∧
     resolve (.indx b) s = place (pointer ((b1 + x) % 256)) ∧
     resolve (.indy b) s = indexed (pointer b1) y) ∧
    (∀ o ∈ [Operand.imm b, .zp b, .zpx b, .zpy b, .indx b, .indy b], operandLength o = 2) ∧
    (∀ o ∈ [Operand.abs a, .absx a, .absy a], operandLength o = 3) ∧
    readOperand (.imm b) s = (b, s) ∧
    (∀ o ∈ [Operand.zp b, .zpx b, .zpy b, .abs a, .absx a, .absy a, .indx b, .indy b],
      readOperand o s =
        busRead (resolve o s).ea { s with cost := s.cost + if (resolve o s).crossed = true then 1 else 0 }) ∧
    (∀ f ∈ readForms b a, classTraps s.params (opcodeClass f.opcode) = false → ∃ t, exec f.instr s = .next t ∧
      t.cost = baseCost s.params f.opcode + if (resolve f.operand s).crossed = true then 1 else 0) ∧
    (∀ f ∈ storeForms b a ++ rmwForms b a, classTraps s.params (opcodeClass f.opcode) = false →
      ∃ t, exec f.instr s = .next t ∧ t.cost = baseCost s.params f.opcode)

/-- R204 to R206: STA, STX and STY in every form. The state a store acts on is the one before it with the cost charged: the
pointer bytes of the indirect forms are read without a side effect (R214). -/
def Obligations.StoreResults : Prop :=
  ∀ (s : State) (b : Byte) (a : Word),
    (∀ f ∈ staForms b a, f.coded ∧ exec f.instr s =
      .next { busWrite (formEa f s) s.cpu.a (s.charge f.opcode) with cpu := { s.cpu with pc := nextPc f s } }) ∧
    (∀ f ∈ stxForms b a, f.coded ∧ exec f.instr s =
      .next { busWrite (formEa f s) s.cpu.x (s.charge f.opcode) with cpu := { s.cpu with pc := nextPc f s } }) ∧
    (∀ f ∈ styForms b a, f.coded ∧ exec f.instr s =
      .next { busWrite (formEa f s) s.cpu.y (s.charge f.opcode) with cpu := { s.cpu with pc := nextPc f s } })

/-- R207 to R212: the six register transfers. -/
def Obligations.TransferResults : Prop :=
  ∀ s : State,
    coded .tax 0xAA [] 2 ∧ exec .tax s = .next { s.charge 0xAA with
      cpu := { s.cpu with x := s.cpu.a, p := nzOf s.cpu.p s.cpu.a, pc := s.cpu.pc + 1 } } ∧
    coded .tay 0xA8 [] 2 ∧ exec .tay s = .next { s.charge 0xA8 with
      cpu := { s.cpu with y := s.cpu.a, p := nzOf s.cpu.p s.cpu.a, pc := s.cpu.pc + 1 } } ∧
    coded .txa 0x8A [] 2 ∧ exec .txa s = .next { s.charge 0x8A with
      cpu := { s.cpu with a := s.cpu.x, p := nzOf s.cpu.p s.cpu.x, pc := s.cpu.pc + 1 } } ∧
    coded .tya 0x98 [] 2 ∧ exec .tya s = .next { s.charge 0x98 with
      cpu := { s.cpu with a := s.cpu.y, p := nzOf s.cpu.p s.cpu.y, pc := s.cpu.pc + 1 } } ∧
    coded .tsx 0xBA [] 2 ∧ exec .tsx s = .next { s.charge 0xBA with
      cpu := { s.cpu with x := s.cpu.s, p := nzOf s.cpu.p s.cpu.s, pc := s.cpu.pc + 1 } } ∧
    coded .txs 0x9A [] 2 ∧
      exec .txs s = .next { s.charge 0x9A with cpu := { s.cpu with s := s.cpu.x, pc := s.cpu.pc + 1 } }

/-- R230 to R233: PHA, PHP, PLA and PLP. The stack cell is RAM cell 0x100 + S, the pushed status has bits 5 and 4 set, and a
pulled status gives all six flags. -/
def Obligations.StackInstructionResults : Prop :=
  ∀ s : State,
    coded .pha 0x48 [] 3 ∧ exec .pha s = .next { s.charge 0x48 with
      ram := cellsWrite s.ram (0x100 + s.cpu.s.toNat) s.cpu.a,
      cpu := { s.cpu with s := s.cpu.s - 1, pc := s.cpu.pc + 1 } } ∧
    coded .php 0x08 [] 3 ∧ exec .php s = .next { s.charge 0x08 with
      ram := cellsWrite s.ram (0x100 + s.cpu.s.toNat)
        (BitVec.ofBool s.cpu.p.n ++ BitVec.ofBool s.cpu.p.v ++ 0b11#2 ++ BitVec.ofBool s.cpu.p.d ++
          BitVec.ofBool s.cpu.p.i ++ BitVec.ofBool s.cpu.p.z ++ BitVec.ofBool s.cpu.p.c : Byte),
      cpu := { s.cpu with s := s.cpu.s - 1, pc := s.cpu.pc + 1 } } ∧
    (let m := cellsRead s.ram (0x100 + (s.cpu.s + 1).toNat)
     coded .pla 0x68 [] 4 ∧ exec .pla s = .next { s.charge 0x68 with
       cpu := { s.cpu with a := m, s := s.cpu.s + 1, p := nzOf s.cpu.p m, pc := s.cpu.pc + 1 } } ∧
     coded .plp 0x28 [] 4 ∧ exec .plp s = .next { s.charge 0x28 with
       cpu := { s.cpu with
         s := s.cpu.s + 1, pc := s.cpu.pc + 1,
         p := { c := m.getLsbD 0, z := m.getLsbD 1, i := m.getLsbD 2, d := m.getLsbD 3, v := m.getLsbD 6,
                n := m.getLsbD 7 } } })

/-- R241: ADC in every form, its flags in integers. -/
def Obligations.AdcResults : Prop :=
  ∀ (s : State) (b : Byte) (a : Word), ∀ f ∈ adcForms b a,
    let r := adcRule s.cpu.p s.cpu.a (readM f s).1
    f.coded ∧ exec f.instr s = .next { (readM f s).2 with cpu := { s.cpu with a := r.1, p := r.2, pc := nextPc f s } }

/-- R242: SBC in every form, its flags in integers. -/
def Obligations.SbcResults : Prop :=
  ∀ (s : State) (b : Byte) (a : Word), ∀ f ∈ sbcForms b a,
    let r := sbcRule s.cpu.p s.cpu.a (readM f s).1
    f.coded ∧ exec f.instr s = .next { (readM f s).2 with cpu := { s.cpu with a := r.1, p := r.2, pc := nextPc f s } }

/-- R243 to R245: AND, ORA and EOR in every form. -/
def Obligations.LogicResults : Prop :=
  ∀ (s : State) (b : Byte) (a : Word),
    (∀ f ∈ andForms b a, let r := s.cpu.a &&& (readM f s).1
      f.coded ∧ exec f.instr s =
        .next { (readM f s).2 with cpu := { s.cpu with a := r, p := nzOf s.cpu.p r, pc := nextPc f s } }) ∧
    (∀ f ∈ oraForms b a, let r := s.cpu.a ||| (readM f s).1
      f.coded ∧ exec f.instr s =
        .next { (readM f s).2 with cpu := { s.cpu with a := r, p := nzOf s.cpu.p r, pc := nextPc f s } }) ∧
    (∀ f ∈ eorForms b a, let r := s.cpu.a ^^^ (readM f s).1
      f.coded ∧ exec f.instr s =
        .next { (readM f s).2 with cpu := { s.cpu with a := r, p := nzOf s.cpu.p r, pc := nextPc f s } })

/-- R246 to R249: CMP, CPX, CPY and BIT in every form. -/
def Obligations.CompareResults : Prop :=
  ∀ (s : State) (b : Byte) (a : Word),
    (∀ f ∈ cmpForms b a, f.coded ∧ exec f.instr s =
      .next { (readM f s).2 with cpu := { s.cpu with p := cmpRule s.cpu.p s.cpu.a (readM f s).1, pc := nextPc f s } }) ∧
    (∀ f ∈ cpxForms b a, f.coded ∧ exec f.instr s =
      .next { (readM f s).2 with cpu := { s.cpu with p := cmpRule s.cpu.p s.cpu.x (readM f s).1, pc := nextPc f s } }) ∧
    (∀ f ∈ cpyForms b a, f.coded ∧ exec f.instr s =
      .next { (readM f s).2 with cpu := { s.cpu with p := cmpRule s.cpu.p s.cpu.y (readM f s).1, pc := nextPc f s } }) ∧
    (∀ f ∈ bitForms b a, let m := (readM f s).1
      f.coded ∧ exec f.instr s =
        .next { (readM f s).2 with
          cpu := { s.cpu with
            p := { s.cpu.p with z := decide (s.cpu.a &&& m = 0), n := m.getLsbD 7, v := m.getLsbD 6 },
            pc := nextPc f s } })

/-- R250, R251: INC and DEC of memory in every form: one read, one write of the result. -/
def Obligations.MemoryIncDecResults : Prop :=
  ∀ (s : State) (b : Byte) (a : Word),
    (∀ f ∈ incForms b a, let r := (rmwM f s).1 + 1
      f.coded ∧
        exec f.instr s = .next { rmwStored f r s with cpu := { s.cpu with p := nzOf s.cpu.p r, pc := nextPc f s } }) ∧
    (∀ f ∈ decForms b a, let r := (rmwM f s).1 - 1
      f.coded ∧
        exec f.instr s = .next { rmwStored f r s with cpu := { s.cpu with p := nzOf s.cpu.p r, pc := nextPc f s } })

/-- R252 to R255: INX, INY, DEX and DEY. -/
def Obligations.RegisterIncDecResults : Prop :=
  ∀ s : State,
    coded .inx 0xE8 [] 2 ∧ exec .inx s = .next { s.charge 0xE8 with
      cpu := { s.cpu with x := s.cpu.x + 1, p := nzOf s.cpu.p (s.cpu.x + 1), pc := s.cpu.pc + 1 } } ∧
    coded .iny 0xC8 [] 2 ∧ exec .iny s = .next { s.charge 0xC8 with
      cpu := { s.cpu with y := s.cpu.y + 1, p := nzOf s.cpu.p (s.cpu.y + 1), pc := s.cpu.pc + 1 } } ∧
    coded .dex 0xCA [] 2 ∧ exec .dex s = .next { s.charge 0xCA with
      cpu := { s.cpu with x := s.cpu.x - 1, p := nzOf s.cpu.p (s.cpu.x - 1), pc := s.cpu.pc + 1 } } ∧
    coded .dey 0x88 [] 2 ∧ exec .dey s = .next { s.charge 0x88 with
      cpu := { s.cpu with y := s.cpu.y - 1, p := nzOf s.cpu.p (s.cpu.y - 1), pc := s.cpu.pc + 1 } }

/-- R290 to R293: ASL, LSR, ROL and ROR of A and of memory, in every form: the result bit by bit, C the bit shifted out. -/
def Obligations.ShiftResults : Prop :=
  ∀ (s : State) (b : Byte) (a : Word),
    let asl := fun m : Byte => (m.extractLsb' 0 7 ++ 0#1 : Byte)
    let lsr := fun m : Byte => (0#1 ++ m.extractLsb' 1 7 : Byte)
    let rol := fun m : Byte => (m.extractLsb' 0 7 ++ BitVec.ofBool s.cpu.p.c : Byte)
    let ror := fun m : Byte => (BitVec.ofBool s.cpu.p.c ++ m.extractLsb' 1 7 : Byte)
    let flags := fun (carry : Bool) (r : Byte) => nzOf { s.cpu.p with c := carry } r
    (let m := s.cpu.a
     coded .aslAcc 0x0A [] 2 ∧ exec .aslAcc s = .next { s.charge 0x0A with
       cpu := { s.cpu with a := asl m, p := flags (m.getLsbD 7) (asl m), pc := s.cpu.pc + 1 } } ∧
     coded .lsrAcc 0x4A [] 2 ∧ exec .lsrAcc s = .next { s.charge 0x4A with
       cpu := { s.cpu with a := lsr m, p := flags (m.getLsbD 0) (lsr m), pc := s.cpu.pc + 1 } } ∧
     coded .rolAcc 0x2A [] 2 ∧ exec .rolAcc s = .next { s.charge 0x2A with
       cpu := { s.cpu with a := rol m, p := flags (m.getLsbD 7) (rol m), pc := s.cpu.pc + 1 } } ∧
     coded .rorAcc 0x6A [] 2 ∧ exec .rorAcc s = .next { s.charge 0x6A with
       cpu := { s.cpu with a := ror m, p := flags (m.getLsbD 0) (ror m), pc := s.cpu.pc + 1 } }) ∧
    (∀ f ∈ aslForms b a, let m := (rmwM f s).1
      f.coded ∧ exec f.instr s = .next { rmwStored f (asl m) s with
        cpu := { s.cpu with p := flags (m.getLsbD 7) (asl m), pc := nextPc f s } }) ∧
    (∀ f ∈ lsrForms b a, let m := (rmwM f s).1
      f.coded ∧ exec f.instr s = .next { rmwStored f (lsr m) s with
        cpu := { s.cpu with p := flags (m.getLsbD 0) (lsr m), pc := nextPc f s } }) ∧
    (∀ f ∈ rolForms b a, let m := (rmwM f s).1
      f.coded ∧ exec f.instr s = .next { rmwStored f (rol m) s with
        cpu := { s.cpu with p := flags (m.getLsbD 7) (rol m), pc := nextPc f s } }) ∧
    (∀ f ∈ rorForms b a, let m := (rmwM f s).1
      f.coded ∧ exec f.instr s = .next { rmwStored f (ror m) s with
        cpu := { s.cpu with p := flags (m.getLsbD 0) (ror m), pc := nextPc f s } })

/-- R300 to R308: the eight conditional branches: the condition, the target, the cost of 2, 3 or 4 cycles (the base cost, 1 more
when taken, 1 more when the target lies on another page than the next instruction). -/
def Obligations.BranchResults : Prop :=
  ∀ (s : State) (b : Byte),
    let pcn := s.cpu.pc + 2
    let target := pcn + b.signExtend 16
    ∀ x ∈ ([(.bcc b, 0x90, !s.cpu.p.c), (.bcs b, 0xB0, s.cpu.p.c), (.beq b, 0xF0, s.cpu.p.z), (.bmi b, 0x30, s.cpu.p.n),
            (.bne b, 0xD0, !s.cpu.p.z), (.bpl b, 0x10, !s.cpu.p.n), (.bvc b, 0x50, !s.cpu.p.v), (.bvs b, 0x70, s.cpu.p.v)] :
            List (Instr × Byte × Bool)),
      coded x.1 x.2.1 [b] 2 ∧ exec x.1 s = .next { s with
        cost := baseCost s.params x.2.1 +
          (if x.2.2 = true then (if pcn &&& 0xFF00 = target &&& 0xFF00 then 1 else 2) else 0),
        cpu := { s.cpu with pc := if x.2.2 = true then target else pcn } }

/-- R309 to R312: JMP absolute and indirect (the pointer's high byte from the same page), JSR (pushes the address of its last
byte, high byte first) and RTS (the pulled address plus 1). -/
def Obligations.JumpCallReturnResults : Prop :=
  ∀ (s : State) (a : Word),
    coded (.jmpAbs a) 0x4C [loByte a, hiByte a] 3 ∧
      exec (.jmpAbs a) s = .next { s.charge 0x4C with cpu := { s.cpu with pc := a } } ∧
    (let lo := busRead a (s.charge 0x6C)
     let hi := busRead (if a &&& 0x00FF = 0x00FF then a - 0xFF else a + 1) lo.2
     coded (.jmpInd a) 0x6C [loByte a, hiByte a] 5 ∧
       exec (.jmpInd a) s = .next { hi.2 with cpu := { s.cpu with pc := hi.1 ++ lo.1 } }) ∧
    coded (.jsr a) 0x20 [loByte a, hiByte a] 6 ∧ exec (.jsr a) s = .next { s.charge 0x20 with
      ram := cellsWrite (cellsWrite s.ram (0x100 + s.cpu.s.toNat) (hiByte (s.cpu.pc + 2)))
        (0x100 + (s.cpu.s - 1).toNat) (loByte (s.cpu.pc + 2)),
      cpu := { s.cpu with s := s.cpu.s - 2, pc := a } } ∧
    coded .rts 0x60 [] 6 ∧ exec .rts s = .next { s.charge 0x60 with
      cpu := { s.cpu with
        s := s.cpu.s + 2,
        pc := (cellsRead s.ram (0x100 + (s.cpu.s + 2).toNat) ++ cellsRead s.ram (0x100 + (s.cpu.s + 1).toNat)) + 1 } }

/-- R313: BRK pushes PC0 + 2, high byte first, and the status with bits 5 and 4 set, sets I, and loads PC from 0xFFFE; it is not
masked by I and changes nothing else. -/
def Obligations.BrkResult : Prop :=
  ∀ s : State, Memory.wf s.ram = true → coded .brk 0x00 [] 7 ∧ ∃ t, exec .brk s = .next t ∧
    t.cpu = { s.cpu with s := s.cpu.s - 3, p := { s.cpu.p with i := true },
                         pc := prgByte s 0xFFFF ++ prgByte s 0xFFFE } ∧
    peek t (0x0100 + s.cpu.s.setWidth 16) = some (hiByte (s.cpu.pc + 2)) ∧
    peek t (0x0100 + (s.cpu.s - 1).setWidth 16) = some (loByte (s.cpu.pc + 2)) ∧
    peek t (0x0100 + (s.cpu.s - 2).setWidth 16) =
      some (BitVec.ofBool s.cpu.p.n ++ BitVec.ofBool s.cpu.p.v ++ 0b11#2 ++ BitVec.ofBool s.cpu.p.d ++
        BitVec.ofBool s.cpu.p.i ++ BitVec.ofBool s.cpu.p.z ++ BitVec.ofBool s.cpu.p.c : Byte) ∧
    (∀ a : Word, (∀ k ∈ [s.cpu.s, s.cpu.s - 1, s.cpu.s - 2], sameStore (stackAddr k) a = false) → peek t a = peek s a) ∧
    t = { s.charge 0x00 with ram := t.ram, cpu := t.cpu }

/-- R314: RTI pulls the status, then PC, low byte first, with no + 1. -/
def Obligations.RtiResult : Prop :=
  ∀ s : State,
    let m := cellsRead s.ram (0x100 + (s.cpu.s + 1).toNat)
    coded .rti 0x40 [] 6 ∧ exec .rti s = .next { s.charge 0x40 with
      cpu := { s.cpu with
        s := s.cpu.s + 3,
        p := { c := m.getLsbD 0, z := m.getLsbD 1, i := m.getLsbD 2, d := m.getLsbD 3, v := m.getLsbD 6, n := m.getLsbD 7 },
        pc := cellsRead s.ram (0x100 + (s.cpu.s + 3).toNat) ++ cellsRead s.ram (0x100 + (s.cpu.s + 2).toNat) } }

/-- R340 to R347: the seven flag instructions and NOP. -/
def Obligations.FlagInstructionResults : Prop :=
  ∀ s : State,
    coded .clc 0x18 [] 2 ∧
      exec .clc s = .next { s.charge 0x18 with cpu := { s.cpu with p := { s.cpu.p with c := false }, pc := s.cpu.pc + 1 } } ∧
    coded .sec 0x38 [] 2 ∧
      exec .sec s = .next { s.charge 0x38 with cpu := { s.cpu with p := { s.cpu.p with c := true }, pc := s.cpu.pc + 1 } } ∧
    coded .cli 0x58 [] 2 ∧
      exec .cli s = .next { s.charge 0x58 with cpu := { s.cpu with p := { s.cpu.p with i := false }, pc := s.cpu.pc + 1 } } ∧
    coded .sei 0x78 [] 2 ∧
      exec .sei s = .next { s.charge 0x78 with cpu := { s.cpu with p := { s.cpu.p with i := true }, pc := s.cpu.pc + 1 } } ∧
    coded .cld 0xD8 [] 2 ∧
      exec .cld s = .next { s.charge 0xD8 with cpu := { s.cpu with p := { s.cpu.p with d := false }, pc := s.cpu.pc + 1 } } ∧
    coded .sed 0xF8 [] 2 ∧
      exec .sed s = .next { s.charge 0xF8 with cpu := { s.cpu with p := { s.cpu.p with d := true }, pc := s.cpu.pc + 1 } } ∧
    coded .clv 0xB8 [] 2 ∧
      exec .clv s = .next { s.charge 0xB8 with cpu := { s.cpu with p := { s.cpu.p with v := false }, pc := s.cpu.pc + 1 } } ∧
    coded .nop 0xEA [] 2 ∧ exec .nop s = .next { s.charge 0xEA with cpu := { s.cpu with pc := s.cpu.pc + 1 } }

/-- R361, R362: the 27 unofficial NOPs with the gate on: PC goes on, an operand form makes its read with its
side effect; with the gate off each raises UnimplementedOpcode. -/
def Obligations.UnofficialNopResults : Prop :=
  ∀ (s : State) (b : Byte) (a : Word),
    (s.params.unofficialEnabled = true →
      (∀ x ∈ nopImplied, coded x.1 x.2 [] 2 ∧ exec x.1 s = .next { s.charge x.2 with cpu := { s.cpu with pc := s.cpu.pc + 1 } }) ∧
      (∀ f ∈ nopReadForms b a, f.coded ∧
        exec f.instr s = .next { (readM f s).2 with cpu := { s.cpu with pc := nextPc f s } })) ∧
    (s.params.unofficialEnabled = false → ∀ x ∈ nopImplied ++ (nopReadForms b a).map (fun f => (f.instr, f.opcode)),
      exec x.1 s = .next { s with fault := some { pc := s.cpu.pc, opcode := x.2 } })

/-- R364 to R367, R370, R371: SLO, RLA, SRE, RRA, DCP and ISC in every form, with the gate on: one read, one write of R, then R
combined with A; the carry out of RRA's rotate feeds the add; with the gate off each raises UnimplementedOpcode. -/
def Obligations.UnofficialReadModifyWriteResults : Prop :=
  ∀ (s : State) (b : Byte) (a : Word),
    (s.params.unofficialEnabled = true →
      (∀ f ∈ sloForms b a, let m := (rmwM f s).1; let r := m <<< 1; let v := s.cpu.a ||| r
        f.coded ∧ exec f.instr s = .next { rmwStored f r s with
          cpu := { s.cpu with a := v, p := nzOf { s.cpu.p with c := m.getLsbD 7 } v, pc := nextPc f s } }) ∧
      (∀ f ∈ rlaForms b a, let m := (rmwM f s).1; let r := (m <<< 1) ||| bit8 s.cpu.p.c; let v := s.cpu.a &&& r
        f.coded ∧ exec f.instr s = .next { rmwStored f r s with
          cpu := { s.cpu with a := v, p := nzOf { s.cpu.p with c := m.getLsbD 7 } v, pc := nextPc f s } }) ∧
      (∀ f ∈ sreForms b a, let m := (rmwM f s).1; let r := m >>> 1; let v := s.cpu.a ^^^ r
        f.coded ∧ exec f.instr s = .next { rmwStored f r s with
          cpu := { s.cpu with a := v, p := nzOf { s.cpu.p with c := m.getLsbD 0 } v, pc := nextPc f s } }) ∧
      (∀ f ∈ rraForms b a, let m := (rmwM f s).1; let r := (bit8 s.cpu.p.c <<< 7) ||| (m >>> 1)
        let v := adcRule { s.cpu.p with c := m.getLsbD 0 } s.cpu.a r
        f.coded ∧
          exec f.instr s = .next { rmwStored f r s with cpu := { s.cpu with a := v.1, p := v.2, pc := nextPc f s } }) ∧
      (∀ f ∈ dcpForms b a, let r := (rmwM f s).1 - 1
        f.coded ∧ exec f.instr s = .next { rmwStored f r s with
          cpu := { s.cpu with p := cmpRule s.cpu.p s.cpu.a r, pc := nextPc f s } }) ∧
      (∀ f ∈ iscForms b a, let r := (rmwM f s).1 + 1
        let v := sbcRule s.cpu.p s.cpu.a r
        f.coded ∧
          exec f.instr s = .next { rmwStored f r s with cpu := { s.cpu with a := v.1, p := v.2, pc := nextPc f s } })) ∧
    (s.params.unofficialEnabled = false →
      ∀ f ∈ sloForms b a ++ rlaForms b a ++ sreForms b a ++ rraForms b a ++ dcpForms b a ++ iscForms b a,
      exec f.instr s = .next { s with fault := some { pc := s.cpu.pc, opcode := f.opcode } })

/-- R368, R369: SAX and LAX in every form, with the gate on; off, each raises UnimplementedOpcode. -/
def Obligations.SaxLaxResults : Prop :=
  ∀ (s : State) (b : Byte) (a : Word),
    (s.params.unofficialEnabled = true →
      (∀ f ∈ saxForms b a, f.coded ∧ exec f.instr s =
        .next { busWrite (formEa f s) (s.cpu.a &&& s.cpu.x) (s.charge f.opcode) with
          cpu := { s.cpu with pc := nextPc f s } }) ∧
      (∀ f ∈ laxForms b a, let m := (readM f s).1
        f.coded ∧ exec f.instr s = .next { (readM f s).2 with
          cpu := { s.cpu with a := m, x := m, p := nzOf s.cpu.p m, pc := nextPc f s } })) ∧
    (s.params.unofficialEnabled = false → ∀ f ∈ saxForms b a ++ laxForms b a,
      exec f.instr s = .next { s with fault := some { pc := s.cpu.pc, opcode := f.opcode } })

/-- R372 to R376: ANC, ALR, ARR, AXS and the copy of SBC, with the gate on; off, each raises UnimplementedOpcode. -/
def Obligations.UnofficialImmediateResults : Prop :=
  ∀ (s : State) (b : Byte),
    (s.params.unofficialEnabled = true →
      (let t := s.cpu.a &&& b
       (∀ x ∈ [(Instr.ancImm0B b, (0x0B : Byte)), (.ancImm2B b, 0x2B)],
         coded x.1 x.2 [b] 2 ∧ exec x.1 s = .next { s.charge x.2 with
           cpu := { s.cpu with a := t, p := nzOf { s.cpu.p with c := t.getLsbD 7 } t, pc := s.cpu.pc + 2 } }) ∧
       coded (.alrImm b) 0x4B [b] 2 ∧ exec (.alrImm b) s = .next { s.charge 0x4B with
         cpu := { s.cpu with a := t >>> 1, p := nzOf { s.cpu.p with c := t.getLsbD 0 } (t >>> 1), pc := s.cpu.pc + 2 } } ∧
       (let r := (bit8 s.cpu.p.c <<< 7) ||| (t >>> 1)
        coded (.arrImm b) 0x6B [b] 2 ∧ exec (.arrImm b) s = .next { s.charge 0x6B with
          cpu := { s.cpu with
            a := r, p := nzOf { s.cpu.p with c := r.getLsbD 6, v := r.getLsbD 6 ^^ r.getLsbD 5 } r,
            pc := s.cpu.pc + 2 } })) ∧
      (let t := s.cpu.a &&& s.cpu.x
       coded (.axsImm b) 0xCB [b] 2 ∧ exec (.axsImm b) s = .next { s.charge 0xCB with
         cpu := { s.cpu with
           x := t - b, p := nzOf { s.cpu.p with c := decide (b.toNat ≤ t.toNat) } (t - b), pc := s.cpu.pc + 2 } }) ∧
      (let r := sbcRule s.cpu.p s.cpu.a b
       coded (.sbcImmEB b) 0xEB [b] 2 ∧ exec (.sbcImmEB b) s = .next { s.charge 0xEB with
         cpu := { s.cpu with a := r.1, p := r.2, pc := s.cpu.pc + 2 } })) ∧
    (s.params.unofficialEnabled = false →
      ∀ f ∈ ancForms b 0 ++ alrForms b 0 ++ arrForms b 0 ++ axsForms b 0 ++ sbcCopyForms b 0,
      exec f.instr s = .next { s with fault := some { pc := s.cpu.pc, opcode := f.opcode } })

/-- R360, R705: with the gate off each of the 85 stable unofficial instructions records UnimplementedOpcode(PC0, opcode) and
changes nothing else: a next state, whose following step stops by that name. -/
def Obligations.GateOffRaisesUnimplementedOpcode : Prop :=
  ∀ (s : State) (b : Byte) (a : Word), s.params.unofficialEnabled = false → ∀ x ∈ gatedInstrs b a,
    let t := { s with fault := some { pc := s.cpu.pc, opcode := x.2 } }
    (encode x.1).head? = some x.2 ∧ exec x.1 s = .next t ∧ step t = .fault (.unimplementedOpcode s.cpu.pc x.2)

/-- R380, R381: the 12 JAM and the 8 unstable opcodes record UnimplementedOpcode(PC0, opcode), whatever the gate is, and change
nothing else: a next state, whose following step stops by that name. -/
def Obligations.JamAndUnstableOpcodesRaise : Prop :=
  ∀ (s : State) (b : Byte) (a : Word), ∀ x ∈ faultingInstrs b a,
    let t := { s with fault := some { pc := s.cpu.pc, opcode := x.2 } }
    (encode x.1).head? = some x.2 ∧ exec x.1 s = .next t ∧ step t = .fault (.unimplementedOpcode s.cpu.pc x.2)

/-! ## Frames -/

/-- R200 and the "Operands" lines of files 40 to 46: every instruction leaves each of A, X, Y and S unchanged that its rule does
not write. -/
def Obligations.FrameOfRegisters : Prop :=
  ∀ (i : Instr) (s t : State), exec i s = .next t → ∀ r : Reg, r ∉ writesReg i → t.cpu.reg r = s.cpu.reg r

/-- R200 and the "Flags" lines of files 40 to 46: every instruction leaves each flag unchanged that its rule does not name. -/
def Obligations.FrameOfFlags : Prop :=
  ∀ (i : Instr) (s t : State), exec i s = .next t → ∀ f : FlagName, f ∉ writesFlag i →
    Machine.Flags.flag t.cpu.p f = Machine.Flags.flag s.cpu.p f

/-- R113, R200, R213: every instruction leaves every stored byte unchanged but those at the addresses it stores to, which are the
effective addresses and stack cells its meaning computes. -/
def Obligations.FrameOfMemory : Prop :=
  ∀ (i : Instr) (s t : State), exec i s = .next t →
    ∀ a : Word, (∀ e ∈ storesTo i s, sameStore e a = false) → peek t a = peek s a

/-- R72, R150, R620, R621, R650: no instruction changes the cartridge, the parameters, the running flag, the cycle count, or
anything of the mapper but its two RAMs: not its PRG or CHR slots, not its warnings, not its binding; and one that is not a faulting
one records no fault. -/
def Obligations.FrameOfMachine : Prop :=
  ∀ (i : Instr) (s t : State), exec i s = .next t →
    t.cart = s.cart ∧ t.params = s.params ∧ t.running = s.running ∧ t.cpuCycles = s.cpuCycles ∧
    t.mapper = { s.mapper with prgRam := t.mapper.prgRam, chrRam := t.mapper.chrRam } ∧
    (∀ op rest, encode i = op :: rest → classTraps s.params (opcodeClass op) = false → t.fault = s.fault)

/-- R110, R200: an instruction with a memory operand outside 0x2000 to 0x401F changes no device register: not the PPU, not the
APU, not the ports, not the NMI latch. -/
def Obligations.FrameOfDevices : Prop :=
  ∀ (s t : State) (b : Byte) (a : Word), ∀ f ∈ readForms b a ++ storeForms b a ++ rmwForms b a,
    exec f.instr s = .next t →
    ((formEa f s).toNat < 0x2000 ∨ 0x4020 ≤ (formEa f s).toNat ∨ f.operand = .imm b) →
    t.ppu = s.ppu ∧ t.apu = s.apu ∧ t.ports = s.ports ∧ t.nmiPending = s.nmiPending

/-! ## Memory and the stack -/

/-- R17, R234: a push writes the cell S names and lowers S, a pull raises S and reads the cell it then names, both modulo 256
inside RAM cells 0x100 to 0x1FF; so 256 pushes bring S back, the 257th is one further, a pull right after a push gives the byte
back and restores every register, and no push reaches a cell outside the page. -/
def Obligations.StackWrapsInItsPage : Prop :=
  (∀ (s : State) (v : Byte),
    push v s = { s with ram := cellsWrite s.ram (0x100 + s.cpu.s.toNat) v, cpu := { s.cpu with s := s.cpu.s - 1 } } ∧
    pull s = (cellsRead s.ram (0x100 + (s.cpu.s + 1).toNat), { s with cpu := { s.cpu with s := s.cpu.s + 1 } })) ∧
  (∀ (s : State) (v : Byte) (n : Nat), (iterate (push v) n s).cpu.s = s.cpu.s - BitVec.ofNat 8 n) ∧
  (∀ (s : State) (v : Byte), (iterate (push v) 256 s).cpu.s = s.cpu.s ∧ (iterate (push v) 257 s).cpu.s = s.cpu.s - 1) ∧
  (∀ (s : State) (v : Byte), Memory.wf s.ram = true → (pull (push v s)).1 = v ∧ (pull (push v s)).2.cpu = s.cpu) ∧
  (∀ (s : State) (v : Byte) (n k : Nat), (k < 0x100 ∨ 0x200 ≤ k) →
    cellsRead (iterate (push v) n s).ram k = cellsRead s.ram k)

/-- R50, R110: RAM is mirrored every 0x800 bytes up to 0x2000: a byte written through any mirror is read through every other, and
every other cell reads as before. -/
def Obligations.RamIsMirrored : Prop :=
  ∀ (s : State) (a b : Word) (v : Byte), Memory.wf s.ram = true → a.toNat < 0x2000 → b.toNat < 0x2000 →
    busRead b (busWrite a v s) =
      (if a.toNat % 0x800 = b.toNat % 0x800 then v else (busRead b s).1, busWrite a v s)

/-- The model's canonical form (log 5): two storages in that form that read the same everywhere are the same data. -/
def Obligations.CanonicalStorageIsDetermined : Prop :=
  ∀ (w : Nat) (m n : Cells w), Memory.wf m = true → Memory.wf n = true → (∀ a, cellsRead m a = cellsRead n a) → m = n

/-! ## Interrupts -/

/-- R715: an NMI or IRQ entry pushes PC, high byte first, and the status with bit 5 set and bit 4 clear, sets I, loads PC from the
interrupt's vector, clears the NMI latch for an NMI, and changes nothing else. -/
def Obligations.InterruptEntry : Prop :=
  ∀ (k : Interrupt) (s : State), Memory.wf s.ram = true →
    let t := enterInterrupt k s
    t.cpu = { s.cpu with
      s := s.cpu.s - 3, p := { s.cpu.p with i := true },
      pc := match k with
        | .nmi => prgByte s 0xFFFB ++ prgByte s 0xFFFA
        | .irq => prgByte s 0xFFFF ++ prgByte s 0xFFFE } ∧
    peek t (0x0100 + s.cpu.s.setWidth 16) = some (hiByte s.cpu.pc) ∧
    peek t (0x0100 + (s.cpu.s - 1).setWidth 16) = some (loByte s.cpu.pc) ∧
    peek t (0x0100 + (s.cpu.s - 2).setWidth 16) =
      some (BitVec.ofBool s.cpu.p.n ++ BitVec.ofBool s.cpu.p.v ++ 0b10#2 ++ BitVec.ofBool s.cpu.p.d ++
        BitVec.ofBool s.cpu.p.i ++ BitVec.ofBool s.cpu.p.z ++ BitVec.ofBool s.cpu.p.c : Byte) ∧
    (∀ a : Word, (∀ j ∈ [s.cpu.s, s.cpu.s - 1, s.cpu.s - 2], sameStore (stackAddr j) a = false) → peek t a = peek s a) ∧
    t.nmiPending = (match k with | .nmi => false | .irq => s.nmiPending) ∧
    t = { s with ram := t.ram, cpu := t.cpu, nmiPending := t.nmiPending }

/-- R716: RTI right after an entry gives back PC, S, every flag and every register of the interrupted program. -/
def Obligations.RtiUndoesAnEntry : Prop :=
  ∀ (k : Interrupt) (s : State), Memory.wf s.ram = true →
    ∃ t, exec .rti (enterInterrupt k s) = .next t ∧ t.cpu = s.cpu

/-! ## The PPU -/

/-- R411: a PPUSTATUS read through any mirror gives the three flags over five open bits, and clears VBLANK and the toggle w, and
nothing else. -/
def Obligations.StatusReadClearsVblankAndToggle : Prop :=
  ∀ (s : State) (a : Word), 0x2000 ≤ a.toNat → a.toNat < 0x4000 → a.toNat % 8 = 2 →
    let r := busRead a s
    r.1.getLsbD 7 = s.ppu.vblank ∧ r.1.getLsbD 6 = s.ppu.spr0Hit ∧ r.1.getLsbD 5 = s.ppu.sprOverflow ∧
    (∀ i, i < 5 → r.1.getLsbD i = (Config.openBus s.draws).getLsbD i) ∧
    r.2 = { s with draws := s.draws + 1, ppu := { s.ppu with vblank := false, w := false } }

/-- R412 to R414, R416 to R418, R452, R141: through every mirror, what a write of PPUCTRL, PPUMASK, OAMADDR, OAMDATA, PPUSCROLL and
PPUADDR puts where, and nothing else: PPUCTRL also t[11:10] and, with the parameter, the late NMI; OAMDATA also the next OAMADDR;
the two writes of a PPUADDR or PPUSCROLL pair told apart by the toggle w they share. An OAMDATA read gives the byte OAMADDR names,
bits 4..2 of an attribute byte as 0, and changes nothing. -/
def Obligations.AddressAndScrollWrites : Prop :=
  ∀ (s : State) (d : Byte) (n : Nat), n < 1024 →
    busWrite (ppuMirror n 0) d s =
      { s with
        ppu := { s.ppu with ctrl := d, t := s.ppu.t.extractLsb' 12 3 ++ d.extractLsb' 0 2 ++ s.ppu.t.extractLsb' 0 10 },
        nmiPending := s.nmiPending ||
          (!s.ppu.ctrl.getLsbD 7 && d.getLsbD 7 && s.ppu.vblank && s.params.nmiOnLateEnable) } ∧
    busWrite (ppuMirror n 1) d s = { s with ppu := { s.ppu with mask := d } } ∧
    busWrite (ppuMirror n 3) d s = { s with ppu := { s.ppu with oamAddr := d } } ∧
    (let t := busWrite (ppuMirror n 4) d s
     t = { s with ppu := { s.ppu with oam := t.ppu.oam, oamAddr := s.ppu.oamAddr + 1 } } ∧
     (Memory.wf s.ppu.oam = true → ∀ i : Byte,
       cellsRead t.ppu.oam i.toNat = if i = s.ppu.oamAddr then d else cellsRead s.ppu.oam i.toNat)) ∧
    busRead (ppuMirror n 4) s =
      (if s.ppu.oamAddr.extractLsb' 0 2 = 2 then cellsRead s.ppu.oam s.ppu.oamAddr.toNat &&& 0xE3
       else cellsRead s.ppu.oam s.ppu.oamAddr.toNat, s) ∧
    (s.ppu.w = false →
      busWrite (ppuMirror n 6) d s =
        { s with ppu := { s.ppu with t := 0#1 ++ d.extractLsb' 0 6 ++ s.ppu.t.extractLsb' 0 8, w := true } } ∧
      busWrite (ppuMirror n 5) d s =
        { s with ppu := { s.ppu with
            t := s.ppu.t.extractLsb' 5 10 ++ d.extractLsb' 3 5, x := d.extractLsb' 0 3, w := true } }) ∧
    (s.ppu.w = true →
      (let q := (s.ppu.t.extractLsb' 8 7 ++ d : BitVec 15)
       busWrite (ppuMirror n 6) d s = { s with ppu := { s.ppu with v := q, t := q, w := false } }) ∧
      busWrite (ppuMirror n 5) d s =
        { s with ppu := { s.ppu with
            t := d.extractLsb' 0 3 ++ s.ppu.t.extractLsb' 10 2 ++ d.extractLsb' 3 5 ++ s.ppu.t.extractLsb' 0 5,
            w := false } })

/-- R410, R415, R420: through every mirror, a PPUDATA read below 0x3F00 gives the old buffer and refills it, one from 0x3F00 on
gives the palette cell under two open bits and refills the buffer from the nametable below; a write stores at v; each moves v by the
increment, or by the pipeline's steps with the render glitch. -/
def Obligations.DataPortReadsAndWrites : Prop :=
  ∀ (s : State) (d : Byte) (n : Nat), n < 1024 →
    let a : BitVec 14 := s.ppu.v.setWidth 14
    let next : BitVec 15 :=
      if s.params.ppudataRenderGlitch = true ∧ (s.ppu.mask.getLsbD 3 = true ∨ s.ppu.mask.getLsbD 4 = true) ∧
          (s.ppu.scanline ≤ 239 ∨ s.ppu.scanline = 261) then incY (incX s.ppu.v)
      else s.ppu.v + (if s.ppu.ctrl.getLsbD 2 = true then 32 else 1)
    (a.toNat < 0x3F00 → busRead (ppuMirror n 7) s =
      (s.ppu.readBuf, { s with ppu := { s.ppu with readBuf := ppuRead s.cart s.mapper s.ppu a, v := next } })) ∧
    (0x3F00 ≤ a.toNat → busRead (ppuMirror n 7) s =
      ((Config.openBus s.draws).extractLsb' 6 2 ++ paletteRead s.ppu (a.toNat % 32),
        { s with
          draws := s.draws + 1,
          ppu := { s.ppu with readBuf := ppuRead s.cart s.mapper s.ppu (a - 0x1000), v := next } })) ∧
    (let t := ppuWrite a d s
     busWrite (ppuMirror n 7) d s = { t with ppu := { t.ppu with v := next } })

/-- R131 to R137: in every mirroring mode, a byte written to the PPU space is read back: from CHR RAM at its own address, from a
nametable through every address that reaches the same cell in that mode, from the palette as its low 6 bits through every mirror and
alias; every other address of its region reads as before, and so does all of CHR ROM. -/
def Obligations.PpuSpaceReadsBackWhatWasWritten : Prop :=
  ∀ (s : State) (d : Byte), s.StorageForm →
    (∀ a b : BitVec 14, a.toNat < 0x2000 → b.toNat < 0x2000 →
      (s.cart.chrBanks = 0 ∧ a = b → ppuRead s.cart (ppuWrite a d s).mapper (ppuWrite a d s).ppu b = d) ∧
      (¬(s.cart.chrBanks = 0 ∧ a = b) →
        ppuRead s.cart (ppuWrite a d s).mapper (ppuWrite a d s).ppu b = ppuRead s.cart s.mapper s.ppu b)) ∧
    (∀ a b : BitVec 14, 0x2000 ≤ a.toNat → a.toNat < 0x3F00 → 0x2000 ≤ b.toNat → b.toNat < 0x3F00 →
      (sameNametableCell s.cart.mirroring a b → ppuRead s.cart (ppuWrite a d s).mapper (ppuWrite a d s).ppu b = d) ∧
      (¬sameNametableCell s.cart.mirroring a b →
        ppuRead s.cart (ppuWrite a d s).mapper (ppuWrite a d s).ppu b = ppuRead s.cart s.mapper s.ppu b)) ∧
    (∀ a b : BitVec 14, 0x3F00 ≤ a.toNat → 0x3F00 ≤ b.toNat →
      (samePaletteCell a b → ppuRead s.cart (ppuWrite a d s).mapper (ppuWrite a d s).ppu b = d &&& 0x3F) ∧
      (¬samePaletteCell a b →
        ppuRead s.cart (ppuWrite a d s).mapper (ppuWrite a d s).ppu b = ppuRead s.cart s.mapper s.ppu b))

/-- R670, R110, R114, R622: OAM DMA from any page makes its 256 reads in order, each with its side effect, and stores each byte in
OAM from OAMADDR on, wrapping; it lengthens the step by 514 cycles when the cycle count with the instruction's cost is odd, else by
513. From a page of RAM, of PRG ROM or of the PRG RAM that is present, OAM then holds the page's bytes; from a page no device
drives, 256 open reads; and nothing else changes, OAMADDR among it. -/
def Obligations.OamDmaCopiesAPage : Prop :=
  ∀ (s : State) (page : Byte),
    let t := busWrite 0x4014 page s
    let cycles := if (s.cpuCycles + s.cost) % 2 = 1 then 514 else 513
    let copyByte := fun (u : State) (i : Nat) =>
      let r := busRead (BitVec.ofNat 16 (256 * page.toNat + i)) u
      { r.2 with ppu := { r.2.ppu with oam := cellsWrite r.2.ppu.oam ((r.2.ppu.oamAddr.toNat + i) % 256) r.1 } }
    t = { (List.range 256).foldl copyByte s with dmaCycles := cycles } ∧
    t.ppu.oamAddr = s.ppu.oamAddr ∧
    (Memory.wf s.ppu.oam = true →
      (page.toNat < 0x20 ∨ 0x80 ≤ page.toNat ∨ (0x60 ≤ page.toNat ∧ s.params.prgRamPresent = true) →
        (∀ i : Byte, some (cellsRead t.ppu.oam (s.ppu.oamAddr + i).toNat) = peek s (page ++ i)) ∧
        t = { s with ppu := { s.ppu with oam := t.ppu.oam }, dmaCycles := cycles }) ∧
      (0x41 ≤ page.toNat → page.toNat < 0x80 → (page.toNat < 0x60 ∨ s.params.prgRamPresent = false) →
        (∀ i : Byte, cellsRead t.ppu.oam (s.ppu.oamAddr + i).toNat = Config.openBus (s.draws + i.toNat)) ∧
        t = { s with ppu := { s.ppu with oam := t.ppu.oam }, draws := s.draws + 256, dmaCycles := cycles }))

/-- R425, R450, R451: a dot does its work and moves the position on, dot 340 of the pre-render line being skipped in an odd frame;
the dot at (241, 1) sets VBLANK, swaps the frame buffers, latches an NMI exactly when PPUCTRL enables it, and is the only one that
offers the display sink a frame, the one just completed; the dot at (261, 1) clears the three status flags and raises nothing. -/
def Obligations.VblankStartsAndEnds : Prop :=
  (∀ s : State,
    let p := doDot s.cart s.mapper s.ppu.scanline s.ppu.dot s.ppu
    let skip := s.ppu.scanline = 261 ∧ s.ppu.dot = 339 ∧ s.ppu.oddFrame = true ∧
      (s.ppu.mask.getLsbD 3 = true ∨ s.ppu.mask.getLsbD 4 = true ∨ s.params.oddSkipRequiresRendering = false)
    (ppuTick s).ppu =
      if skip then { p with scanline := 0, dot := 0, oddFrame := false }
      else if s.ppu.dot + 1 ≠ 341 then { p with dot := s.ppu.dot + 1 }
      else if s.ppu.scanline + 1 ≠ 262 then { p with dot := 0, scanline := s.ppu.scanline + 1 }
      else { p with dot := 0, scanline := 0, oddFrame := !s.ppu.oddFrame }) ∧
  (∀ s : State, dotFrames s = if s.ppu.scanline = 241 ∧ s.ppu.dot = 1 then [s.ppu.fbBack] else []) ∧
  (∀ s : State, s.ppu.dot = 1 →
    (s.ppu.scanline = 241 → ppuTick s =
      { s with nmiPending := s.nmiPending || s.ppu.ctrl.getLsbD 7,
               ppu := { s.ppu with vblank := true, fbBack := s.ppu.fbFront, fbFront := s.ppu.fbBack, dot := 2 } }) ∧
    (s.ppu.scanline = 261 → ppuTick s =
      { s with ppu := { s.ppu with vblank := false, spr0Hit := false, sprOverflow := false, dot := 2 } }))

/-- R425, R455: with rendering off, n dots after the start of a frame the PPU stands at line n / 341, dot n mod 341; the frame takes
89342 dots, or 89341 where it is odd and the parameter lets an odd frame skip its dot without rendering; and it flips the parity. -/
def Obligations.FrameWithoutRenderingTakes89342Dots : Prop :=
  ∀ s : State, s.ppu.mask &&& 0x18 = 0 → s.ppu.scanline = 0 → s.ppu.dot = 0 →
    let frame := if s.params.oddSkipRequiresRendering = false ∧ s.ppu.oddFrame = true then 89341 else 89342
    (∀ n, n < frame → (iterate ppuTick n s).ppu.scanline = n / 341 ∧ (iterate ppuTick n s).ppu.dot = n % 341) ∧
    (iterate ppuTick frame s).ppu.scanline = 0 ∧ (iterate ppuTick frame s).ppu.dot = 0 ∧
    (iterate ppuTick frame s).ppu.oddFrame = !s.ppu.oddFrame

/-! ## The APU and the ports -/

/-- R503, R513, R518, R527, R535, R536: a 0x4015 write sets the enables and empties the length counters of disabled channels; a
write of a channel's fourth register loads the length table's entry only while the channel is enabled; a 0x4015 read shows which
counters run and both interrupt flags, and clears the frame flag alone. R531 to R534, R536, R553, R557, R558: what a write of each DMC register changes; a 0x4015 write empties
or restarts the DMC's sample by bit 4 and clears its flag, and then its reader runs; the reader fetches exactly when its buffer is
empty and bytes are left, asks for the stall, and at the last byte restarts a looping sample or raises the flag where enabled. -/
def Obligations.LengthCountersAndStatus : Prop :=
  ∀ (s : State) (d : Byte),
    (let t := busWrite 0x4015 d s
     t.apu.pulse1.enabled = d.getLsbD 0 ∧ t.apu.pulse2.enabled = d.getLsbD 1 ∧ t.apu.tri.enabled = d.getLsbD 2 ∧
     t.apu.noise.enabled = d.getLsbD 3 ∧
     t.apu.pulse1.length = (if d.getLsbD 0 = true then s.apu.pulse1.length else 0) ∧
     t.apu.pulse2.length = (if d.getLsbD 1 = true then s.apu.pulse2.length else 0) ∧
     t.apu.tri.length = (if d.getLsbD 2 = true then s.apu.tri.length else 0) ∧
     t.apu.noise.length = (if d.getLsbD 3 = true then s.apu.noise.length else 0)) ∧
    (busWrite 0x4003 d s).apu.pulse1.length =
      (if s.apu.pulse1.enabled = true then lengthTable.getD (d.toNat / 8) 0 else s.apu.pulse1.length) ∧
    (busWrite 0x4007 d s).apu.pulse2.length =
      (if s.apu.pulse2.enabled = true then lengthTable.getD (d.toNat / 8) 0 else s.apu.pulse2.length) ∧
    (busWrite 0x400B d s).apu.tri.length =
      (if s.apu.tri.enabled = true then lengthTable.getD (d.toNat / 8) 0 else s.apu.tri.length) ∧
    (busWrite 0x400F d s).apu.noise.length =
      (if s.apu.noise.enabled = true then lengthTable.getD (d.toNat / 8) 0 else s.apu.noise.length) ∧
    (let r := busRead 0x4015 s
     r.1.getLsbD 7 = s.apu.dmc.irqFlag ∧ r.1.getLsbD 6 = s.apu.frame.irqFlag ∧
     r.1.getLsbD 5 = (Config.openBus s.draws).getLsbD 5 ∧
     r.1.getLsbD 4 = decide (s.apu.dmc.remaining ≠ 0) ∧ r.1.getLsbD 3 = decide (s.apu.noise.length ≠ 0) ∧
     r.1.getLsbD 2 = decide (s.apu.tri.length ≠ 0) ∧ r.1.getLsbD 1 = decide (s.apu.pulse2.length ≠ 0) ∧
     r.1.getLsbD 0 = decide (s.apu.pulse1.length ≠ 0) ∧
     r.2 = { s with draws := s.draws + 1, apu := { s.apu with frame := { s.apu.frame with irqFlag := false } } }) ∧
    busWrite 0x4010 d s =
      { s with apu := { s.apu with dmc := { s.apu.dmc with
          irqEnable := d.getLsbD 7, loop := d.getLsbD 6, rateIdx := d.extractLsb' 0 4,
          irqFlag := s.apu.dmc.irqFlag && d.getLsbD 7 } } } ∧
    busWrite 0x4011 d s = { s with apu := { s.apu with dmc := { s.apu.dmc with level := d.extractLsb' 0 7 } } } ∧
    busWrite 0x4012 d s = { s with apu := { s.apu with dmc := { s.apu.dmc with addrReg := d } } } ∧
    busWrite 0x4013 d s = { s with apu := { s.apu with dmc := { s.apu.dmc with lenReg := d } } } ∧
    busWrite 0x4015 d s =
      dmcReader { s with apu :=
        { pulse1 := { s.apu.pulse1 with enabled := d.getLsbD 0, length := if d.getLsbD 0 = true then s.apu.pulse1.length else 0 },
          pulse2 := { s.apu.pulse2 with enabled := d.getLsbD 1, length := if d.getLsbD 1 = true then s.apu.pulse2.length else 0 },
          tri := { s.apu.tri with enabled := d.getLsbD 2, length := if d.getLsbD 2 = true then s.apu.tri.length else 0 },
          noise := { s.apu.noise with enabled := d.getLsbD 3, length := if d.getLsbD 3 = true then s.apu.noise.length else 0 },
          dmc := dmcEnabled d s.apu.dmc, frame := s.apu.frame } } ∧
    (s.apu.dmc.bufferFull = true ∨ s.apu.dmc.remaining = 0 → dmcReader s = s) ∧
    (s.apu.dmc.bufferFull = false → s.apu.dmc.remaining ≠ 0 → 0x8000 ≤ s.apu.dmc.curAddr.toNat →
      dmcReader s =
        { s with
          apu := { s.apu with dmc := dmcAfterFetch (prgByte s s.apu.dmc.curAddr) s.apu.dmc },
          stallPending := s.stallPending + s.params.dmcStallCycles.val })

/-- R540 to R545: a 0x4017 write sets the mode and the inhibit, clears the frame flag with the inhibit, restarts the sequence and, in
5-step mode, clocks a quarter and a half frame at once; a tick clocks them at the cycles of its mode's sequence and at no other, and
the sequence then starts again. So from the start of a 4-step sequence the frame flag is 0 for 29828 ticks, rises at tick 29829 and
stays, unless inhibited; in a 5-step sequence it never changes. -/
def Obligations.FrameInterruptOncePerSequence : Prop :=
  (∀ (s : State) (d : Byte),
    busWrite 0x4017 d s =
      (let b : Apu := { s.apu with frame :=
         { mode := d.getLsbD 7, irqInhibit := d.getLsbD 6, irqFlag := s.apu.frame.irqFlag && !d.getLsbD 6, cycle := 0 } }
       { s with apu := if d.getLsbD 7 = true then halfFrame (quarterFrame b) else b })) ∧
  (∀ (a : Apu) (e : Nat × Bool), e ∈ frameClocks a.frame.mode → a.frame.cycle + 1 = e.1 →
    frameTick a =
      { (if e.2 = true then halfFrame (quarterFrame a) else quarterFrame a) with
        frame := { a.frame with
          cycle := e.1, irqFlag := a.frame.irqFlag || (decide (e.1 = 29829) && !a.frame.irqInhibit) } }) ∧
  (∀ a : Apu, (∀ e ∈ frameClocks a.frame.mode, a.frame.cycle + 1 ≠ e.1) →
    frameTick a =
      { a with frame := { a.frame with
          cycle := if a.frame.cycle + 1 = frameLength a.frame.mode then 0 else a.frame.cycle + 1 } }) ∧
  (∀ a : Apu, a.frame.mode = false → a.frame.cycle = 0 → a.frame.irqFlag = false → ∀ n, n ≤ 29830 →
    (iterate frameTick n a).frame.irqFlag = (!a.frame.irqInhibit && decide (29829 ≤ n)) ∧
    (iterate frameTick n a).frame.cycle = n % 29830) ∧
  (∀ a : Apu, a.frame.mode = true → a.frame.cycle = 0 → ∀ n, n ≤ 37282 →
    (iterate frameTick n a).frame.irqFlag = a.frame.irqFlag ∧ (iterate frameTick n a).frame.cycle = n % 37282)

/-- R660 to R662: a strobe of 1 then 0 latches both pads' reports; while the strobe is 0 the k-th read of a pad gives bit k of its
report, and 1 from the ninth on; while it is 1 every read of a pad gives bit 0 of its report. -/
def Obligations.ControllerReportIsShiftedOut : Prop :=
  (∀ s : State, busWrite 0x4016 0 (busWrite 0x4016 1 s) =
    { s with ports := { strobe := false, shift0 := Config.controllerInput 0 s.cpuCycles,
                        shift1 := Config.controllerInput 1 s.cpuCycles } }) ∧
  (∀ (s : State) (k : Nat), s.ports.strobe = false →
    (busRead 0x4016 (iterate (fun u => (busRead 0x4016 u).2) k s)).1.getLsbD 0 =
      (if k < 8 then s.ports.shift0.getLsbD k else true) ∧
    (busRead 0x4017 (iterate (fun u => (busRead 0x4017 u).2) k s)).1.getLsbD 0 =
      (if k < 8 then s.ports.shift1.getLsbD k else true)) ∧
  (∀ (s : State) (k : Nat), s.ports.strobe = true →
    (busRead 0x4016 (iterate (fun u => (busRead 0x4016 u).2) k s)).1.getLsbD 0 =
      (Config.controllerInput 0 s.cpuCycles).getLsbD 0 ∧
    (busRead 0x4017 (iterate (fun u => (busRead 0x4017 u).2) k s)).1.getLsbD 0 =
      (Config.controllerInput 1 s.cpuCycles).getLsbD 0)

/-! ## The cartridge and the host -/

/-- R620, R622: with one PRG bank 0xC000 to 0xFFFF shows the same bytes as 0x8000 to 0xBFFF; with two or more it shows bank 1;
with none every byte is 0; such a read has no side effect and a write there changes nothing. 0x6000 to 0x7FFF reads and writes the
PRG RAM where it is present; where it is not, and at 0x4020 to 0x5FFF, a read is an open one and a write changes nothing. -/
def Obligations.BaselinePrgMapping : Prop :=
  (∀ (s : State) (j : Nat), s.BaselineSlots → j < 16384 →
    let lower := BitVec.ofNat 16 (0x8000 + j)
    let upper := BitVec.ofNat 16 (0xC000 + j)
    (1 ≤ s.cart.prgBanks → busRead lower s = (cellsRead s.cart.prg j, s)) ∧
    (s.cart.prgBanks = 1 → busRead upper s = (cellsRead s.cart.prg j, s)) ∧
    (2 ≤ s.cart.prgBanks → busRead upper s = (cellsRead s.cart.prg (16384 + j), s)) ∧
    (s.cart.prgBanks = 0 → busRead lower s = (0, s) ∧ busRead upper s = (0, s)) ∧
    (∀ v : Byte, busWrite lower v s = s ∧ busWrite upper v s = s)) ∧
  (∀ (s : State) (a : Word) (v : Byte), 0x6000 ≤ a.toNat → a.toNat < 0x8000 → s.params.prgRamPresent = true →
    busRead a s = (cellsRead s.mapper.prgRam (a.toNat - 0x6000), s) ∧
    busWrite a v s =
      { s with mapper := { s.mapper with prgRam := cellsWrite s.mapper.prgRam (a.toNat - 0x6000) v } }) ∧
  (∀ (s : State) (a : Word) (v : Byte), 0x4020 ≤ a.toNat → a.toNat < 0x8000 →
    (a.toNat < 0x6000 ∨ s.params.prgRamPresent = false) →
    busRead a s = (Config.openBus s.draws, { s with draws := s.draws + 1 }) ∧ busWrite a v s = s)

/-- R601, R607, R630, R695, R696: an image without the magic changes nothing and is reported once; an unregistered mapper id is served
with exactly one warning more; the host gets the loader's outputs with one error call for each error and, besides, the progress
calls, whose percents and number are free; a snapshot loaded right after it was saved gives the very state back; one with another version, or
while the machine runs, is not loaded; a recorded fault is never cleared by a snapshot (R46, R691); and a load keeps the cartridge,
the parameters and the binding of the mapper. -/
def Obligations.LoaderAndSnapshotOutcomes : Prop :=
  (∀ (n : Nat) (img : List Byte) (saved : Option (List Byte)) (s : State), img.take 4 ≠ [0x4E, 0x45, 0x53, 0x1A] →
    (loadImage n img saved s).2 = s ∧ (loadImage n img saved s).1.isValid = false ∧
    (loadImage n img saved s).1.errors = [.invalidFormat] ∧
    reply n (.loadImage img saved) s = .load (loadImage n img saved s).1 ∧ act (.loadImage img saved) s = s) ∧
  (∀ (n : Nat) (img : List Byte) (saved : Option (List Byte)) (s : State), img.take 4 = [0x4E, 0x45, 0x53, 0x1A] →
    (loadImage n img saved s).1.isValid = true ∧ (loadImage n img saved s).2.mapper.bound = true ∧
    (loadImage n img saved s).1.programBankCount = (img.getD 4 0).toNat ∧
    (loadImage n img saved s).1.characterBankCount = (img.getD 5 0).toNat ∧
    (imageMapperId img = 0 → (loadImage n img saved s).1.errors = [] ∧
      (loadImage n img saved s).2.mapper.warnings = s.mapper.warnings) ∧
    (imageMapperId img ≠ 0 → (loadImage n img saved s).1.errors = [.unsupportedMapper] ∧
      (loadImage n img saved s).2.mapper.warnings = s.mapper.warnings + 1) ∧
    reply n (.loadImage img saved) s = .load (loadImage n img saved s).1 ∧
    act (.loadImage img saved) s = (loadImage n img saved s).2) ∧
  (∀ (n : Nat) (img : List Byte) (saved : Option (List Byte)) (s : State),
    let r := (loadImage n img saved s).1
    r.calls.filterMap LoadCall.error? = r.errors ∧
    r.calls.filter (fun c => c.error?.isNone) =
      ((Config.loadProgress n).1 ++ (Config.loadProgress n).2).map LoadCall.progress) ∧
  (∀ s : State, s.fault = none → loadState (saveState s).1 s.running (saveState s).2 = .loaded s) ∧
  (∀ (s : State) (snap : Snapshot) (r : Bool), s.running = true → loadState snap r s = .notPaused) ∧
  (∀ (s : State) (snap : Snapshot) (r : Bool), s.running = false → s.fault ≠ none → loadState snap r s = .faulted) ∧
  (∀ (s : State) (snap : Snapshot) (r : Bool), s.running = false → s.fault = none → snap.version ≠ 1 →
    loadState snap r s = .versionMismatch) ∧
  (∀ (s : State) (snap : Snapshot) (r : Bool), s.running = false → s.fault = none → snap.version = 1 →
    ∃ t, loadState snap r s = .loaded t ∧ t.cart = s.cart ∧ t.params = s.params ∧ t.mapper.bound = s.mapper.bound ∧
      t.running = r ∧ t.draws = s.draws ∧
      snap.saved = { t with
        running := snap.saved.running, cart := snap.saved.cart, params := snap.saved.params, draws := snap.saved.draws,
        mapper := { t.mapper with bound := snap.saved.mapper.bound } })

/-- R800: a host reset loads PC from 0xFFFC, sets I, lowers S by the parameter, clears the NMI latch and both APU interrupt flags,
counts 7 cycles, and keeps A, X, Y, the other flags, every stored byte, the ports, OAM, the palette and the nametables; a faulted
machine takes no reset (R691). -/
def Obligations.ResetSequenceEffects : Prop :=
  (∀ s : State, s.mapper.bound = true → s.fault = none → s.BaselineSlots →
    let t := hostReset s
    t.cpu = { s.cpu with s := s.cpu.s - s.params.resetSpDecrement, p := { s.cpu.p with i := true },
                         pc := prgByte s 0xFFFD ++ prgByte s 0xFFFC } ∧
    t.nmiPending = false ∧ t.apu.frame.irqFlag = false ∧ t.apu.dmc.irqFlag = false ∧ t.cpuCycles = s.cpuCycles + 7 ∧
    (∀ a, peek t a = peek s a) ∧ t.ports = s.ports ∧ t.ppu.oam = s.ppu.oam ∧ t.ppu.palette = s.ppu.palette ∧
    t.ppu.ntRam = s.ppu.ntRam ∧ t.mapper.chrRam = s.mapper.chrRam ∧ t.ppu.ctrl = 0 ∧ t.ppu.mask = 0 ∧ t.apu.frame.mode = s.apu.frame.mode ∧
    t.apu.frame.irqInhibit = s.apu.frame.irqInhibit ∧ t.fault = none ∧ t.running = s.running) ∧
  (∀ s : State, s.fault ≠ none → hostReset s = s)

/-! ## Invariants -/

/-- R14, R50, R59 to R64, R72, R74, R136: every step keeps every storage in canonical form and inside its size, and the palette's
alias cells empty. -/
def Obligations.StepKeepsStorageForm : Prop :=
  ∀ s t : State, s.StorageForm → step s = .next t → t.StorageForm

/-- R58, R63, R529, R541, R542, R551 to R553, R557: every step keeps the counters of the PPU and the APU in their ranges, the noise
register different from 0, and the DMC reader inside 0x8000 to 0xFFFF. -/
def Obligations.StepKeepsRanges : Prop :=
  ∀ s t : State, s.Ranges → step s = .next t → t.Ranges

/-- R72, R76, R620, R621, R690: no step changes the cartridge, the parameters, the running flag, or anything of the mapper but its
two RAMs: not its PRG or CHR slots, not its warning count, not its binding; so the baseline slots stay. -/
def Obligations.StepKeepsCartridgeAndParameters : Prop :=
  ∀ s t : State, step s = .next t →
    t.cart = s.cart ∧ t.params = s.params ∧ t.running = s.running ∧
    t.mapper = { s.mapper with prgRam := t.mapper.prgRam, chrRam := t.mapper.chrRam } ∧ (s.BaselineSlots → t.BaselineSlots)

/-- The three invariants hold at reset (R801 with the empty cartridge, log 4). -/
def Obligations.ResetMeetsTheInvariants : Prop :=
  State.reset.StorageForm ∧ State.reset.Ranges ∧ State.reset.BaselineSlots ∧ State.reset.enabled
end

