-- ==== Sys2Proof/Laws/Memory.lean ====
section
/-! SUPPORT. The laws of storage: a read after a write, and that every operation keeps the canonical form and the size. -/

namespace Sys2Proof.Machine

variable {w : Nat}

@[simp] theorem cellsRead_nil (a : Nat) : cellsRead ([] : Cells w) a = 0 := rfl

theorem cellsRead_cons (k : Nat) (v : BitVec w) (m : Cells w) (a : Nat) :
    cellsRead ((k, v) :: m) a = if k = a then v else cellsRead m a := by
  simp [cellsRead]

theorem cellsAbove_mono {lo lo' : Nat} (h : lo' ≤ lo) : ∀ {m : Cells w}, cellsAbove lo m = true → cellsAbove lo' m = true
  | [], _ => rfl
  | (k, v) :: m, hm => by
    simp only [cellsAbove, Bool.and_eq_true, decide_eq_true_eq] at hm ⊢
    exact ⟨⟨Nat.lt_of_le_of_lt h hm.1.1, hm.1.2⟩, hm.2⟩

theorem wf_of_cellsAbove {lo : Nat} : ∀ {m : Cells w}, cellsAbove lo m = true → Memory.wf m = true
  | [], _ => rfl
  | (k, v) :: m, hm => by
    simp only [cellsAbove, Memory.wf, Bool.and_eq_true, decide_eq_true_eq] at hm ⊢
    exact ⟨hm.1.2, hm.2⟩

/-- Below the first index of a canonical list every cell reads as unlisted. -/
theorem cellsRead_of_above {lo : Nat} : ∀ {m : Cells w}, cellsAbove lo m = true → ∀ {a : Nat}, a ≤ lo → cellsRead m a = 0
  | [], _, _, _ => rfl
  | (k, v) :: m, hm, a, ha => by
    simp only [cellsAbove, Bool.and_eq_true, decide_eq_true_eq] at hm
    rw [cellsRead_cons, if_neg (by omega)]
    exact cellsRead_of_above hm.2 (by omega)

theorem cellsRead_cellsCons {a : Nat} {v : BitVec w} {m : Cells w} (h : cellsAbove a m = true) (b : Nat) :
    cellsRead (cellsCons a v m) b = if b = a then v else cellsRead m b := by
  unfold cellsCons
  by_cases hv : v = 0
  · subst hv
    simp only [unlisted, beq_self_eq_true, if_true]
    split
    · next hb => subst hb; exact cellsRead_of_above h (Nat.le_refl _)
    · rfl
  · simp only [unlisted, beq_iff_eq, hv, if_false, cellsRead_cons, @eq_comm _ a b]

theorem cellsAbove_cellsCons {lo a : Nat} {v : BitVec w} {m : Cells w} (hl : lo < a) (h : cellsAbove a m = true) :
    cellsAbove lo (cellsCons a v m) = true := by
  unfold cellsCons
  split
  · exact cellsAbove_mono (by omega) h
  · next hv => simp_all [cellsAbove, bne]

theorem cellsAbove_cellsWrite {lo a : Nat} {v : BitVec w} :
    ∀ {m : Cells w}, cellsAbove lo m = true → lo < a → cellsAbove lo (cellsWrite m a v) = true
  | [], _, hl => cellsAbove_cellsCons hl rfl
  | (k, u) :: m, hm, hl => by
    have hm' := hm
    simp only [cellsAbove, Bool.and_eq_true, decide_eq_true_eq] at hm'
    unfold cellsWrite
    split
    · next hk =>
      simp only [cellsAbove, Bool.and_eq_true, decide_eq_true_eq]
      exact ⟨hm'.1, cellsAbove_cellsWrite hm'.2 hk⟩
    · split
      · next hk => rw [← beq_iff_eq.1 hk]; exact cellsAbove_cellsCons hm'.1.1 hm'.2
      · next h1 h2 =>
        refine cellsAbove_cellsCons hl ?_
        simp only [cellsAbove, Bool.and_eq_true, decide_eq_true_eq]
        exact ⟨⟨by simp at h2; omega, hm'.1.2⟩, hm'.2⟩

/-- A write keeps the canonical form. -/
theorem cellsWrite_wf {m : Cells w} (hm : Memory.wf m = true) (a : Nat) (v : BitVec w) :
    Memory.wf (cellsWrite m a v) = true := by
  cases m with
  | nil => unfold cellsWrite cellsCons; split <;> simp_all [Memory.wf, cellsAbove, bne]
  | cons c m =>
    obtain ⟨k, u⟩ := c
    simp only [Memory.wf, Bool.and_eq_true] at hm
    unfold cellsWrite
    split
    · next hk =>
      simp only [Memory.wf, Bool.and_eq_true]
      exact ⟨hm.1, cellsAbove_cellsWrite hm.2 hk⟩
    · split
      · next hk =>
        rw [← beq_iff_eq.1 hk]
        unfold cellsCons
        split
        · exact wf_of_cellsAbove hm.2
        · simp_all [Memory.wf, bne]
      · next h1 h2 =>
        have : cellsAbove a ((k, u) :: m) = true := by
          simp only [cellsAbove, Bool.and_eq_true, decide_eq_true_eq]
          exact ⟨⟨by simp at h2; omega, hm.1⟩, hm.2⟩
        unfold cellsCons
        split
        · exact wf_of_cellsAbove this
        · simp_all [Memory.wf, bne]

/-- A read after a write, at any index, of canonical storage. -/
theorem cellsRead_cellsWrite {m : Cells w} (hm : Memory.wf m = true) (a : Nat) (v : BitVec w) (b : Nat) :
    cellsRead (cellsWrite m a v) b = if b = a then v else cellsRead m b := by
  induction m with
  | nil => exact cellsRead_cellsCons rfl b
  | cons c m ih =>
    obtain ⟨k, u⟩ := c
    simp only [Memory.wf, Bool.and_eq_true] at hm
    unfold cellsWrite
    split
    · next hk =>
      rw [cellsRead_cons, ih (wf_of_cellsAbove hm.2), cellsRead_cons]
      split <;> split <;> first | rfl | omega
    · split
      · next hk =>
        have hk := beq_iff_eq.1 hk
        subst hk
        rw [cellsRead_cellsCons hm.2, cellsRead_cons]
        by_cases hb : b = k <;> simp [hb, @eq_comm _ k b]
      · next h1 h2 =>
        refine cellsRead_cellsCons ?_ b
        simp only [cellsAbove, Bool.and_eq_true, decide_eq_true_eq]
        exact ⟨⟨by simp at h2; omega, hm.1⟩, hm.2⟩

/-- A write leaves every other cell alone, whatever the storage's form. -/
theorem cellsRead_cellsWrite_ne {a b : Nat} (h : b ≠ a) (v : BitVec w) :
    ∀ m : Cells w, cellsRead (cellsWrite m a v) b = cellsRead m b
  | [] => by unfold cellsWrite cellsCons; split <;> simp [cellsRead_cons, h.symm]
  | (k, u) :: m => by
    unfold cellsWrite cellsCons
    have ih := cellsRead_cellsWrite_ne h v m
    split
    · simp only [cellsRead_cons, ih]
    · split
      · next hk =>
        have hk := beq_iff_eq.1 hk
        subst hk
        split <;> simp [cellsRead_cons, h.symm]
      · split <;> simp [cellsRead_cons, h.symm]

/-- The indexes of the written storage are the old ones and `a`. -/
theorem mem_cellsWrite {a : Nat} {v : BitVec w} {c : Nat × BitVec w} :
    ∀ {m : Cells w}, c ∈ cellsWrite m a v → c.1 = a ∨ c ∈ m
  | [] => by unfold cellsWrite cellsCons; split <;> simp_all
  | (k, u) :: m => by
    unfold cellsWrite cellsCons
    split
    · simp only [List.mem_cons]
      rintro (h | h)
      · exact .inr (.inl h)
      · exact (mem_cellsWrite h).imp id .inr
    · split
      · split
        · intro h; exact .inr (List.mem_cons_of_mem _ h)
        · simp only [List.mem_cons]
          rintro (h | h)
          · exact .inl (by rw [h])
          · exact .inr (.inr h)
      · split
        · intro h; exact .inr h
        · simp only [List.mem_cons]
          rintro (h | h)
          · exact .inl (by rw [h])
          · exact .inr h

theorem cellsAbove_cellsOfList : ∀ (vs : List (BitVec w)) (a lo : Nat), lo < a → cellsAbove lo (cellsOfList a vs) = true
  | [], _, _, _ => rfl
  | _ :: vs, a, _, h => cellsAbove_cellsCons h (cellsAbove_cellsOfList vs (a + 1) a (by omega))

/-- Storage made from a list of values has the canonical form. -/
theorem cellsOfList_wf (vs : List (BitVec w)) (a : Nat) : Memory.wf (cellsOfList a vs) = true := by
  cases vs with
  | nil => rfl
  | cons v vs =>
    have h := cellsAbove_cellsOfList vs (a + 1) a (by omega)
    simp only [cellsOfList, cellsCons]
    split
    · exact wf_of_cellsAbove h
    · simp_all [Memory.wf, bne]

/-- Writing a list of values keeps the canonical form. -/
theorem cellsWriteList_wf : ∀ (vs : List (BitVec w)) {m : Cells w}, Memory.wf m = true → ∀ a : Nat,
    Memory.wf (cellsWriteList m a vs) = true
  | [], _, hm, _ => hm
  | _ :: vs, _, hm, a => cellsWriteList_wf vs (cellsWrite_wf hm a _) (a + 1)

end Sys2Proof.Machine
end

