-- ==== Sys2Proof/Laws/Bus.lean ====
section
/-! SUPPORT. What a bus access can change, said once: a read changes the devices and the draw count only, a write never the CPU,
the cartridge or the parameters, and neither changes a stored byte elsewhere. -/

namespace Sys2Proof.Machine

/-- All a bus read can do to the state. -/
theorem busRead_frame (a : Word) (s : State) :
    (busRead a s).2 =
      { s with draws := (busRead a s).2.draws, ppu := (busRead a s).2.ppu, apu := (busRead a s).2.apu,
               ports := (busRead a s).2.ports } := by
  unfold busRead ppuRegRead readPpuData readPpuStatus readApuStatus readPad mapperRead drawOpenBus
  simp only
  repeat' split
  all_goals rfl

@[simp] theorem busRead_cpu (a : Word) (s : State) : (busRead a s).2.cpu = s.cpu := by rw [busRead_frame]
@[simp] theorem busRead_nmiPending (a : Word) (s : State) : (busRead a s).2.nmiPending = s.nmiPending := by rw [busRead_frame]
@[simp] theorem busRead_fault (a : Word) (s : State) : (busRead a s).2.fault = s.fault := by rw [busRead_frame]
@[simp] theorem busRead_cpuCycles (a : Word) (s : State) : (busRead a s).2.cpuCycles = s.cpuCycles := by rw [busRead_frame]
@[simp] theorem busRead_running (a : Word) (s : State) : (busRead a s).2.running = s.running := by rw [busRead_frame]
@[simp] theorem busRead_ram (a : Word) (s : State) : (busRead a s).2.ram = s.ram := by rw [busRead_frame]
@[simp] theorem busRead_cart (a : Word) (s : State) : (busRead a s).2.cart = s.cart := by rw [busRead_frame]
@[simp] theorem busRead_mapper (a : Word) (s : State) : (busRead a s).2.mapper = s.mapper := by rw [busRead_frame]
@[simp] theorem busRead_params (a : Word) (s : State) : (busRead a s).2.params = s.params := by rw [busRead_frame]
@[simp] theorem busRead_cost (a : Word) (s : State) : (busRead a s).2.cost = s.cost := by rw [busRead_frame]
@[simp] theorem busRead_dmaCycles (a : Word) (s : State) : (busRead a s).2.dmaCycles = s.dmaCycles := by rw [busRead_frame]
@[simp] theorem busRead_stallPending (a : Word) (s : State) : (busRead a s).2.stallPending = s.stallPending := by
  rw [busRead_frame]

/-- A stored byte depends on RAM, the cartridge, the mapper and the parameters only. -/
theorem peek_congr {s t : State} (hr : t.ram = s.ram) (hc : t.cart = s.cart) (hm : t.mapper = s.mapper)
    (hp : t.params = s.params) (a : Word) : peek t a = peek s a := by
  simp [peek, prgByte, hr, hc, hm, hp]

@[simp] theorem peek_busRead (a : Word) (s : State) (b : Word) : peek (busRead a s).2 b = peek s b :=
  peek_congr (by simp) (by simp) (by simp) (by simp) b

/-- A read of RAM: the stored byte, no side effect. -/
theorem busRead_ramRange {a : Word} (h : a.toNat < 0x2000) (s : State) :
    busRead a s = (cellsRead s.ram (a.toNat % 0x800), s) := by
  simp [busRead, h]

/-- A read of 0x8000–0xFFFF: the byte of PRG ROM, no side effect. -/
theorem busRead_prg {a : Word} (h : 0x8000 ≤ a.toNat) (s : State) : busRead a s = (prgByte s a, s) := by
  have h1 : ¬ a.toNat < 0x2000 := by omega
  have h2 : ¬ a.toNat < 0x4000 := by omega
  have h3 : ¬ a.toNat < 0x4020 := by omega
  have h4 : ¬ a.toNat < 0x6000 := by omega
  have h5 : ¬ a.toNat < 0x8000 := by omega
  have e1 : ¬ a = 0x4015#16 := by rintro rfl; simp at h
  have e2 : ¬ a = 0x4016#16 := by rintro rfl; simp at h
  have e3 : ¬ a = 0x4017#16 := by rintro rfl; simp at h
  simp [busRead, mapperRead, h1, h2, h3, h4, h5, e1, e2, e3]

/-- Where a read finds a stored byte, it answers that byte and changes nothing. -/
theorem busRead_of_peek {s : State} {a : Word} {v : Byte} (h : peek s a = some v) : busRead a s = (v, s) := by
  by_cases h1 : a.toNat < 0x2000
  · simp [peek, h1] at h; rw [busRead_ramRange h1, h]
  · by_cases h2 : a.toNat < 0x6000
    · simp [peek, h1, h2] at h
    · by_cases h3 : a.toNat < 0x8000
      · simp [peek, h1, h2, h3] at h
        have h4 : ¬ a.toNat < 0x4000 := by omega
        have h5 : ¬ a.toNat < 0x4020 := by omega
        have e1 : ¬ a = 0x4015#16 := by rintro rfl; simp at h2
        have e2 : ¬ a = 0x4016#16 := by rintro rfl; simp at h2
        have e3 : ¬ a = 0x4017#16 := by rintro rfl; simp at h2
        simp [busRead, mapperRead, h1, h2, h3, h4, h5, e1, e2, e3, h]
      · simp [peek, h1, h2, h3] at h
        rw [busRead_prg (by omega), h]

/-- All the DMC reader can do to the state. -/
theorem dmcReader_frame (s : State) :
    dmcReader s =
      { s with draws := (dmcReader s).draws, ppu := (dmcReader s).ppu, apu := (dmcReader s).apu, ports := (dmcReader s).ports,
               stallPending := (dmcReader s).stallPending } := by
  unfold dmcReader
  split
  · simp only
    rw [busRead_frame]
  · rfl

@[simp] theorem dmcReader_cpu (s : State) : (dmcReader s).cpu = s.cpu := by rw [dmcReader_frame]
@[simp] theorem dmcReader_nmiPending (s : State) : (dmcReader s).nmiPending = s.nmiPending := by rw [dmcReader_frame]
@[simp] theorem dmcReader_fault (s : State) : (dmcReader s).fault = s.fault := by rw [dmcReader_frame]
@[simp] theorem dmcReader_cpuCycles (s : State) : (dmcReader s).cpuCycles = s.cpuCycles := by rw [dmcReader_frame]
@[simp] theorem dmcReader_running (s : State) : (dmcReader s).running = s.running := by rw [dmcReader_frame]
@[simp] theorem dmcReader_ram (s : State) : (dmcReader s).ram = s.ram := by rw [dmcReader_frame]
@[simp] theorem dmcReader_cart (s : State) : (dmcReader s).cart = s.cart := by rw [dmcReader_frame]
@[simp] theorem dmcReader_mapper (s : State) : (dmcReader s).mapper = s.mapper := by rw [dmcReader_frame]
@[simp] theorem dmcReader_params (s : State) : (dmcReader s).params = s.params := by rw [dmcReader_frame]
@[simp] theorem dmcReader_cost (s : State) : (dmcReader s).cost = s.cost := by rw [dmcReader_frame]
@[simp] theorem dmcReader_dmaCycles (s : State) : (dmcReader s).dmaCycles = s.dmaCycles := by rw [dmcReader_frame]

/-- All the copy loop of OAM DMA can do to the state. -/
theorem oamCopy_frame (page : Byte) : ∀ (n i : Nat) (s : State),
    oamCopy page n i s =
      { s with draws := (oamCopy page n i s).draws, ppu := (oamCopy page n i s).ppu, apu := (oamCopy page n i s).apu,
               ports := (oamCopy page n i s).ports }
  | 0, _, _ => rfl
  | n + 1, i, s => by
    unfold oamCopy
    simp only
    rw [oamCopy_frame page n (i + 1), busRead_frame]

/-- What no write can change: the CPU, the fault, the cycle count, the running flag, the cartridge, the parameters, the cost. -/
def keepsCore (s t : State) : Prop :=
  t.cpu = s.cpu ∧ t.fault = s.fault ∧ t.cpuCycles = s.cpuCycles ∧ t.running = s.running ∧ t.cart = s.cart ∧
    t.params = s.params ∧ t.cost = s.cost

theorem ppuRegWrite_keeps (r : Nat) (d : Byte) (s : State) : keepsCore s (ppuRegWrite r d s) := by
  unfold ppuRegWrite
  split; · exact ⟨rfl, rfl, rfl, rfl, rfl, rfl, rfl⟩
  split; · exact ⟨rfl, rfl, rfl, rfl, rfl, rfl, rfl⟩
  split; · exact ⟨rfl, rfl, rfl, rfl, rfl, rfl, rfl⟩
  split; · exact ⟨rfl, rfl, rfl, rfl, rfl, rfl, rfl⟩
  split; · exact ⟨rfl, rfl, rfl, rfl, rfl, rfl, rfl⟩
  split; · exact ⟨rfl, rfl, rfl, rfl, rfl, rfl, rfl⟩
  split; · exact ⟨rfl, rfl, rfl, rfl, rfl, rfl, rfl⟩
  unfold writePpuData ppuWrite
  simp only
  split
  · exact ⟨rfl, rfl, rfl, rfl, rfl, rfl, rfl⟩
  · split <;> exact ⟨rfl, rfl, rfl, rfl, rfl, rfl, rfl⟩

theorem oamDma_keeps (page : Byte) (s : State) : keepsCore s (oamDma page s) := by
  unfold oamDma
  rw [oamCopy_frame]
  exact ⟨rfl, rfl, rfl, rfl, rfl, rfl, rfl⟩

theorem writeApuEnable_keeps (d : Byte) (s : State) : keepsCore s (writeApuEnable d s) := by
  simp [writeApuEnable, keepsCore]

theorem writeStrobe_keeps (d : Byte) (s : State) : keepsCore s (writeStrobe d s) := by
  unfold writeStrobe
  simp only
  split <;> exact ⟨rfl, rfl, rfl, rfl, rfl, rfl, rfl⟩

theorem mapperWrite_keeps (a : Word) (v : Byte) (s : State) : keepsCore s (mapperWrite a v s) := by
  unfold mapperWrite
  split <;> exact ⟨rfl, rfl, rfl, rfl, rfl, rfl, rfl⟩

/-- What a bus write leaves alone. -/
theorem busWrite_keeps (a : Word) (v : Byte) (s : State) : keepsCore s (busWrite a v s) := by
  unfold busWrite
  split; · exact ⟨rfl, rfl, rfl, rfl, rfl, rfl, rfl⟩
  split; · exact ppuRegWrite_keeps _ v s
  split; · exact ⟨rfl, rfl, rfl, rfl, rfl, rfl, rfl⟩
  split; · exact oamDma_keeps v s
  split; · exact writeApuEnable_keeps v s
  split; · exact writeStrobe_keeps v s
  split; · exact ⟨rfl, rfl, rfl, rfl, rfl, rfl, rfl⟩
  split; · exact ⟨rfl, rfl, rfl, rfl, rfl, rfl, rfl⟩
  exact mapperWrite_keeps a v s

@[simp] theorem busWrite_cpu (a : Word) (v : Byte) (s : State) : (busWrite a v s).cpu = s.cpu := (busWrite_keeps a v s).1
@[simp] theorem busWrite_fault (a : Word) (v : Byte) (s : State) : (busWrite a v s).fault = s.fault :=
  (busWrite_keeps a v s).2.1
@[simp] theorem busWrite_cpuCycles (a : Word) (v : Byte) (s : State) : (busWrite a v s).cpuCycles = s.cpuCycles :=
  (busWrite_keeps a v s).2.2.1
@[simp] theorem busWrite_running (a : Word) (v : Byte) (s : State) : (busWrite a v s).running = s.running :=
  (busWrite_keeps a v s).2.2.2.1
@[simp] theorem busWrite_cart (a : Word) (v : Byte) (s : State) : (busWrite a v s).cart = s.cart :=
  (busWrite_keeps a v s).2.2.2.2.1
@[simp] theorem busWrite_params (a : Word) (v : Byte) (s : State) : (busWrite a v s).params = s.params :=
  (busWrite_keeps a v s).2.2.2.2.2.1
@[simp] theorem busWrite_cost (a : Word) (v : Byte) (s : State) : (busWrite a v s).cost = s.cost :=
  (busWrite_keeps a v s).2.2.2.2.2.2

/-- Of the mapper a PPU register write changes CHR RAM alone (R131). -/
theorem ppuRegWrite_mapper (r : Nat) (d : Byte) (s : State) :
    (ppuRegWrite r d s).mapper = { s.mapper with chrRam := (ppuRegWrite r d s).mapper.chrRam } := by
  unfold ppuRegWrite
  repeat' split
  all_goals first | rfl | skip
  simp only [writePpuData, ppuWrite, patternWrite]
  repeat' split
  all_goals rfl

/-- Of the mapper a bus write changes its two RAMs alone: the slots, the warnings and the binding stay (R620 to R622). -/
theorem busWrite_mapper (a : Word) (v : Byte) (s : State) :
    (busWrite a v s).mapper =
      { s.mapper with prgRam := (busWrite a v s).mapper.prgRam, chrRam := (busWrite a v s).mapper.chrRam } := by
  unfold busWrite
  split; · rfl
  split; · rw [ppuRegWrite_mapper]
  split; · rfl
  split; · rw [oamDma, oamCopy_frame]
  split; · simp only [writeApuEnable, dmcReader_mapper]
  split; · simp only [writeStrobe]; split <;> rfl
  split; · rfl
  split; · rfl
  unfold mapperWrite
  split <;> rfl

/-- A write of RAM: one cell, nothing else. -/
theorem busWrite_ramRange {a : Word} (h : a.toNat < 0x2000) (v : Byte) (s : State) :
    busWrite a v s = { s with ram := cellsWrite s.ram (a.toNat % 0x800) v } := by
  simp [busWrite, h]

/-- A write outside RAM and PRG RAM stores no byte the CPU can read back. -/
theorem busWrite_store_keeps {a : Word} {s : State} (h1 : ¬ a.toNat < 0x2000)
    (h2 : ¬ (0x6000 ≤ a.toNat ∧ a.toNat < 0x8000 ∧ s.params.prgRamPresent)) (v : Byte) :
    (busWrite a v s).ram = s.ram ∧ (busWrite a v s).mapper.prgRam = s.mapper.prgRam ∧
      (busWrite a v s).mapper.prgSlot0 = s.mapper.prgSlot0 ∧ (busWrite a v s).mapper.prgSlot1 = s.mapper.prgSlot1 := by
  unfold busWrite
  rw [if_neg h1]
  split
  · unfold ppuRegWrite
    split; · exact ⟨rfl, rfl, rfl, rfl⟩
    split; · exact ⟨rfl, rfl, rfl, rfl⟩
    split; · exact ⟨rfl, rfl, rfl, rfl⟩
    split; · exact ⟨rfl, rfl, rfl, rfl⟩
    split; · exact ⟨rfl, rfl, rfl, rfl⟩
    split; · exact ⟨rfl, rfl, rfl, rfl⟩
    split; · exact ⟨rfl, rfl, rfl, rfl⟩
    unfold writePpuData ppuWrite patternWrite
    simp only
    split
    · split <;> exact ⟨rfl, rfl, rfl, rfl⟩
    · split <;> exact ⟨rfl, rfl, rfl, rfl⟩
  split; · exact ⟨rfl, rfl, rfl, rfl⟩
  split
  · unfold oamDma
    rw [oamCopy_frame]
    exact ⟨rfl, rfl, rfl, rfl⟩
  split; · simp [writeApuEnable]
  split
  · unfold writeStrobe
    simp only
    split <;> exact ⟨rfl, rfl, rfl, rfl⟩
  split; · exact ⟨rfl, rfl, rfl, rfl⟩
  split; · exact ⟨rfl, rfl, rfl, rfl⟩
  unfold mapperWrite
  rw [if_neg h2]
  exact ⟨rfl, rfl, rfl, rfl⟩

/-- A stored byte that no write to `a` reaches reads as before. -/
theorem peek_busWrite_ne {a b : Word} (h : sameStore a b = false) (v : Byte) (s : State) :
    peek (busWrite a v s) b = peek s b := by
  have key : ∀ t : State, t.ram = s.ram → t.cart = s.cart → t.mapper.prgRam = s.mapper.prgRam →
      t.mapper.prgSlot0 = s.mapper.prgSlot0 → t.mapper.prgSlot1 = s.mapper.prgSlot1 → t.params = s.params →
      peek t b = peek s b := by
    intro t hr hc hm h0 h1 hp
    simp [peek, prgByte, hr, hc, hm, hp, h0, h1]
  by_cases h1 : a.toNat < 0x2000
  · rw [busWrite_ramRange h1]
    by_cases h2 : b.toNat < 0x2000
    · have : ¬ (b.toNat % 0x800 = a.toNat % 0x800) := by
        intro he; simp [sameStore, h1, h2, he] at h
      simp [peek, h2, cellsRead_cellsWrite_ne this]
    · simp [peek, prgByte, h2]
  · by_cases h2 : 0x6000 ≤ a.toNat ∧ a.toNat < 0x8000 ∧ s.params.prgRamPresent
    · obtain ⟨h3, h4, h5⟩ := h2
      have n1 : ¬ a.toNat < 0x4000 := by omega
      have n2 : ¬ a.toNat < 0x4014 := by omega
      have n3 : ¬ a.toNat < 0x4020 := by omega
      have e0 : ¬ a = 0x4014#16 := by rintro rfl; simp at h3
      have e1 : ¬ a = 0x4015#16 := by rintro rfl; simp at h3
      have e2 : ¬ a = 0x4016#16 := by rintro rfl; simp at h3
      have e3 : ¬ a = 0x4017#16 := by rintro rfl; simp at h3
      have hne : a ≠ b := by rintro rfl; simp [sameStore, h3, h4] at h
      have hne' : a.toNat ≠ b.toNat := fun he => hne (BitVec.eq_of_toNat_eq he)
      have f0 : (a == 0x4014) = false := by simpa using e0
      have f1 : (a == 0x4015) = false := by simpa using e1
      have f2 : (a == 0x4016) = false := by simpa using e2
      have f3 : (a == 0x4017) = false := by simpa using e3
      simp only [busWrite, mapperWrite, h1, n1, n2, n3, f0, f1, f2, f3, h3, h4, h5, if_true, if_false, and_self,
        Bool.false_eq_true]
      by_cases b1 : b.toNat < 0x2000
      · simp [peek, b1]
      · by_cases b2 : b.toNat < 0x6000
        · simp [peek, b1, b2]
        · by_cases b3 : b.toNat < 0x8000
          · simp only [peek, b1, b2, b3, h5, if_true, if_false]
            rw [cellsRead_cellsWrite_ne (by omega)]
          · simp [peek, prgByte, b1, b2, b3]
    · have h3 := busWrite_store_keeps (a := a) h1 h2 v
      exact key _ h3.1 (by simp) h3.2.1 h3.2.2.1 h3.2.2.2 (by simp)

/-- A read and its answer, the CPU's registers replaced. -/
def withCpu (k : Cpu) (r : Byte × State) : Byte × State := (r.1, { r.2 with cpu := k })

theorem ppuRegRead_withCpu (r : Nat) (k : Cpu) (s : State) :
    ppuRegRead r { s with cpu := k } = withCpu k (ppuRegRead r s) := by
  unfold ppuRegRead
  rw [apply_ite (withCpu k), apply_ite (withCpu k), apply_ite (withCpu k)]
  have h : readPpuData { s with cpu := k } = withCpu k (readPpuData s) := by
    unfold readPpuData
    rw [apply_ite (withCpu k)]
    rfl
  rw [h]
  rfl

theorem mapperRead_withCpu (a : Word) (k : Cpu) (s : State) :
    mapperRead a { s with cpu := k } = withCpu k (mapperRead a s) := by
  unfold mapperRead
  rw [apply_ite (withCpu k), apply_ite (withCpu k), apply_ite (withCpu k)]
  rfl

/-- No bus read looks at the CPU's registers. -/
theorem busRead_withCpu (a : Word) (k : Cpu) (s : State) :
    busRead a { s with cpu := k } = ((busRead a s).1, { (busRead a s).2 with cpu := k }) := by
  change _ = withCpu k (busRead a s)
  unfold busRead
  rw [apply_ite (withCpu k), apply_ite (withCpu k), apply_ite (withCpu k), apply_ite (withCpu k), apply_ite (withCpu k),
    apply_ite (withCpu k), ppuRegRead_withCpu, mapperRead_withCpu]
  rfl

/-- Nor does the copy loop of OAM DMA. -/
theorem oamCopy_withCpu (page : Byte) (k : Cpu) : ∀ (n i : Nat) (s : State),
    oamCopy page n i { s with cpu := k } = { oamCopy page n i s with cpu := k }
  | 0, _, _ => rfl
  | n + 1, i, s => by
    unfold oamCopy
    simp only [busRead_withCpu]
    exact oamCopy_withCpu page k n (i + 1)
      { (busRead (mkWord page (BitVec.ofNat 8 i)) s).2 with
        ppu := { (busRead (mkWord page (BitVec.ofNat 8 i)) s).2.ppu with
          oam := cellsWrite (busRead (mkWord page (BitVec.ofNat 8 i)) s).2.ppu.oam
            ((busRead (mkWord page (BitVec.ofNat 8 i)) s).2.ppu.oamAddr + BitVec.ofNat 8 i).toNat
            (busRead (mkWord page (BitVec.ofNat 8 i)) s).1 } }

/-- Nor does the DMC reader. -/
theorem dmcReader_withCpu (k : Cpu) (s : State) : dmcReader { s with cpu := k } = { dmcReader s with cpu := k } := by
  unfold dmcReader
  simp only
  split
  · simp only [busRead_withCpu]
  · rfl

/-- Nor does a bus write. -/
theorem busWrite_withCpu (a : Word) (v : Byte) (k : Cpu) (s : State) :
    busWrite a v { s with cpu := k } = { busWrite a v s with cpu := k } := by
  unfold busWrite
  split; · rfl
  split
  · unfold ppuRegWrite
    split; · rfl
    split; · rfl
    split; · rfl
    split; · rfl
    split; · rfl
    split; · rfl
    split; · rfl
    unfold writePpuData ppuWrite
    simp only
    split
    · rfl
    · split <;> rfl
  split
  · generalize a.toNat - 0x4000 = r
    rfl
  split
  · unfold oamDma
    have h := oamCopy_withCpu v k 256 0 s
    generalize oamCopy v 256 0 s = u at h ⊢
    generalize oamCopy v 256 0 { s with cpu := k } = w at h ⊢
    subst h
    rfl
  split
  · unfold writeApuEnable
    exact dmcReader_withCpu k { s with apu := { enableChannels v s.apu with dmc := enableDmc v (enableChannels v s.apu).dmc } }
  split
  · unfold writeStrobe
    simp only
    split <;> rfl
  split; · rfl
  split; · rfl
  unfold mapperWrite
  simp only
  split <;> rfl
end Sys2Proof.Machine
end

