-- ==== Sys2Proof/Laws/State.lean ====
section
/-! SUPPORT. For each named update of the state, what each field reads after it: one lemma per field, true by unfolding. -/

namespace Sys2Proof.Machine

@[simp] theorem State.setA_cpu_a (s : State) (v : Byte) : (s.setA v).cpu.a = v := rfl
@[simp] theorem State.setA_cpu_x (s : State) (v : Byte) : (s.setA v).cpu.x = s.cpu.x := rfl
@[simp] theorem State.setA_cpu_y (s : State) (v : Byte) : (s.setA v).cpu.y = s.cpu.y := rfl
@[simp] theorem State.setA_cpu_s (s : State) (v : Byte) : (s.setA v).cpu.s = s.cpu.s := rfl
@[simp] theorem State.setA_cpu_pc (s : State) (v : Byte) : (s.setA v).cpu.pc = s.cpu.pc := rfl
@[simp] theorem State.setA_cpu_p (s : State) (v : Byte) : (s.setA v).cpu.p = s.cpu.p := rfl
@[simp] theorem State.setA_nmiPending (s : State) (v : Byte) : (s.setA v).nmiPending = s.nmiPending := rfl
@[simp] theorem State.setA_fault (s : State) (v : Byte) : (s.setA v).fault = s.fault := rfl
@[simp] theorem State.setA_cpuCycles (s : State) (v : Byte) : (s.setA v).cpuCycles = s.cpuCycles := rfl
@[simp] theorem State.setA_running (s : State) (v : Byte) : (s.setA v).running = s.running := rfl
@[simp] theorem State.setA_ram (s : State) (v : Byte) : (s.setA v).ram = s.ram := rfl
@[simp] theorem State.setA_ports (s : State) (v : Byte) : (s.setA v).ports = s.ports := rfl
@[simp] theorem State.setA_ppu (s : State) (v : Byte) : (s.setA v).ppu = s.ppu := rfl
@[simp] theorem State.setA_apu (s : State) (v : Byte) : (s.setA v).apu = s.apu := rfl
@[simp] theorem State.setA_cart (s : State) (v : Byte) : (s.setA v).cart = s.cart := rfl
@[simp] theorem State.setA_mapper (s : State) (v : Byte) : (s.setA v).mapper = s.mapper := rfl
@[simp] theorem State.setA_params (s : State) (v : Byte) : (s.setA v).params = s.params := rfl
@[simp] theorem State.setA_draws (s : State) (v : Byte) : (s.setA v).draws = s.draws := rfl
@[simp] theorem State.setA_cost (s : State) (v : Byte) : (s.setA v).cost = s.cost := rfl
@[simp] theorem State.setA_dmaCycles (s : State) (v : Byte) : (s.setA v).dmaCycles = s.dmaCycles := rfl
@[simp] theorem State.setA_stallPending (s : State) (v : Byte) : (s.setA v).stallPending = s.stallPending := rfl

@[simp] theorem State.setX_cpu_a (s : State) (v : Byte) : (s.setX v).cpu.a = s.cpu.a := rfl
@[simp] theorem State.setX_cpu_x (s : State) (v : Byte) : (s.setX v).cpu.x = v := rfl
@[simp] theorem State.setX_cpu_y (s : State) (v : Byte) : (s.setX v).cpu.y = s.cpu.y := rfl
@[simp] theorem State.setX_cpu_s (s : State) (v : Byte) : (s.setX v).cpu.s = s.cpu.s := rfl
@[simp] theorem State.setX_cpu_pc (s : State) (v : Byte) : (s.setX v).cpu.pc = s.cpu.pc := rfl
@[simp] theorem State.setX_cpu_p (s : State) (v : Byte) : (s.setX v).cpu.p = s.cpu.p := rfl
@[simp] theorem State.setX_nmiPending (s : State) (v : Byte) : (s.setX v).nmiPending = s.nmiPending := rfl
@[simp] theorem State.setX_fault (s : State) (v : Byte) : (s.setX v).fault = s.fault := rfl
@[simp] theorem State.setX_cpuCycles (s : State) (v : Byte) : (s.setX v).cpuCycles = s.cpuCycles := rfl
@[simp] theorem State.setX_running (s : State) (v : Byte) : (s.setX v).running = s.running := rfl
@[simp] theorem State.setX_ram (s : State) (v : Byte) : (s.setX v).ram = s.ram := rfl
@[simp] theorem State.setX_ports (s : State) (v : Byte) : (s.setX v).ports = s.ports := rfl
@[simp] theorem State.setX_ppu (s : State) (v : Byte) : (s.setX v).ppu = s.ppu := rfl
@[simp] theorem State.setX_apu (s : State) (v : Byte) : (s.setX v).apu = s.apu := rfl
@[simp] theorem State.setX_cart (s : State) (v : Byte) : (s.setX v).cart = s.cart := rfl
@[simp] theorem State.setX_mapper (s : State) (v : Byte) : (s.setX v).mapper = s.mapper := rfl
@[simp] theorem State.setX_params (s : State) (v : Byte) : (s.setX v).params = s.params := rfl
@[simp] theorem State.setX_draws (s : State) (v : Byte) : (s.setX v).draws = s.draws := rfl
@[simp] theorem State.setX_cost (s : State) (v : Byte) : (s.setX v).cost = s.cost := rfl
@[simp] theorem State.setX_dmaCycles (s : State) (v : Byte) : (s.setX v).dmaCycles = s.dmaCycles := rfl
@[simp] theorem State.setX_stallPending (s : State) (v : Byte) : (s.setX v).stallPending = s.stallPending := rfl

@[simp] theorem State.setY_cpu_a (s : State) (v : Byte) : (s.setY v).cpu.a = s.cpu.a := rfl
@[simp] theorem State.setY_cpu_x (s : State) (v : Byte) : (s.setY v).cpu.x = s.cpu.x := rfl
@[simp] theorem State.setY_cpu_y (s : State) (v : Byte) : (s.setY v).cpu.y = v := rfl
@[simp] theorem State.setY_cpu_s (s : State) (v : Byte) : (s.setY v).cpu.s = s.cpu.s := rfl
@[simp] theorem State.setY_cpu_pc (s : State) (v : Byte) : (s.setY v).cpu.pc = s.cpu.pc := rfl
@[simp] theorem State.setY_cpu_p (s : State) (v : Byte) : (s.setY v).cpu.p = s.cpu.p := rfl
@[simp] theorem State.setY_nmiPending (s : State) (v : Byte) : (s.setY v).nmiPending = s.nmiPending := rfl
@[simp] theorem State.setY_fault (s : State) (v : Byte) : (s.setY v).fault = s.fault := rfl
@[simp] theorem State.setY_cpuCycles (s : State) (v : Byte) : (s.setY v).cpuCycles = s.cpuCycles := rfl
@[simp] theorem State.setY_running (s : State) (v : Byte) : (s.setY v).running = s.running := rfl
@[simp] theorem State.setY_ram (s : State) (v : Byte) : (s.setY v).ram = s.ram := rfl
@[simp] theorem State.setY_ports (s : State) (v : Byte) : (s.setY v).ports = s.ports := rfl
@[simp] theorem State.setY_ppu (s : State) (v : Byte) : (s.setY v).ppu = s.ppu := rfl
@[simp] theorem State.setY_apu (s : State) (v : Byte) : (s.setY v).apu = s.apu := rfl
@[simp] theorem State.setY_cart (s : State) (v : Byte) : (s.setY v).cart = s.cart := rfl
@[simp] theorem State.setY_mapper (s : State) (v : Byte) : (s.setY v).mapper = s.mapper := rfl
@[simp] theorem State.setY_params (s : State) (v : Byte) : (s.setY v).params = s.params := rfl
@[simp] theorem State.setY_draws (s : State) (v : Byte) : (s.setY v).draws = s.draws := rfl
@[simp] theorem State.setY_cost (s : State) (v : Byte) : (s.setY v).cost = s.cost := rfl
@[simp] theorem State.setY_dmaCycles (s : State) (v : Byte) : (s.setY v).dmaCycles = s.dmaCycles := rfl
@[simp] theorem State.setY_stallPending (s : State) (v : Byte) : (s.setY v).stallPending = s.stallPending := rfl

@[simp] theorem State.setS_cpu_a (s : State) (v : Byte) : (s.setS v).cpu.a = s.cpu.a := rfl
@[simp] theorem State.setS_cpu_x (s : State) (v : Byte) : (s.setS v).cpu.x = s.cpu.x := rfl
@[simp] theorem State.setS_cpu_y (s : State) (v : Byte) : (s.setS v).cpu.y = s.cpu.y := rfl
@[simp] theorem State.setS_cpu_s (s : State) (v : Byte) : (s.setS v).cpu.s = v := rfl
@[simp] theorem State.setS_cpu_pc (s : State) (v : Byte) : (s.setS v).cpu.pc = s.cpu.pc := rfl
@[simp] theorem State.setS_cpu_p (s : State) (v : Byte) : (s.setS v).cpu.p = s.cpu.p := rfl
@[simp] theorem State.setS_nmiPending (s : State) (v : Byte) : (s.setS v).nmiPending = s.nmiPending := rfl
@[simp] theorem State.setS_fault (s : State) (v : Byte) : (s.setS v).fault = s.fault := rfl
@[simp] theorem State.setS_cpuCycles (s : State) (v : Byte) : (s.setS v).cpuCycles = s.cpuCycles := rfl
@[simp] theorem State.setS_running (s : State) (v : Byte) : (s.setS v).running = s.running := rfl
@[simp] theorem State.setS_ram (s : State) (v : Byte) : (s.setS v).ram = s.ram := rfl
@[simp] theorem State.setS_ports (s : State) (v : Byte) : (s.setS v).ports = s.ports := rfl
@[simp] theorem State.setS_ppu (s : State) (v : Byte) : (s.setS v).ppu = s.ppu := rfl
@[simp] theorem State.setS_apu (s : State) (v : Byte) : (s.setS v).apu = s.apu := rfl
@[simp] theorem State.setS_cart (s : State) (v : Byte) : (s.setS v).cart = s.cart := rfl
@[simp] theorem State.setS_mapper (s : State) (v : Byte) : (s.setS v).mapper = s.mapper := rfl
@[simp] theorem State.setS_params (s : State) (v : Byte) : (s.setS v).params = s.params := rfl
@[simp] theorem State.setS_draws (s : State) (v : Byte) : (s.setS v).draws = s.draws := rfl
@[simp] theorem State.setS_cost (s : State) (v : Byte) : (s.setS v).cost = s.cost := rfl
@[simp] theorem State.setS_dmaCycles (s : State) (v : Byte) : (s.setS v).dmaCycles = s.dmaCycles := rfl
@[simp] theorem State.setS_stallPending (s : State) (v : Byte) : (s.setS v).stallPending = s.stallPending := rfl

@[simp] theorem State.setPc_cpu_a (s : State) (v : Word) : (s.setPc v).cpu.a = s.cpu.a := rfl
@[simp] theorem State.setPc_cpu_x (s : State) (v : Word) : (s.setPc v).cpu.x = s.cpu.x := rfl
@[simp] theorem State.setPc_cpu_y (s : State) (v : Word) : (s.setPc v).cpu.y = s.cpu.y := rfl
@[simp] theorem State.setPc_cpu_s (s : State) (v : Word) : (s.setPc v).cpu.s = s.cpu.s := rfl
@[simp] theorem State.setPc_cpu_pc (s : State) (v : Word) : (s.setPc v).cpu.pc = v := rfl
@[simp] theorem State.setPc_cpu_p (s : State) (v : Word) : (s.setPc v).cpu.p = s.cpu.p := rfl
@[simp] theorem State.setPc_nmiPending (s : State) (v : Word) : (s.setPc v).nmiPending = s.nmiPending := rfl
@[simp] theorem State.setPc_fault (s : State) (v : Word) : (s.setPc v).fault = s.fault := rfl
@[simp] theorem State.setPc_cpuCycles (s : State) (v : Word) : (s.setPc v).cpuCycles = s.cpuCycles := rfl
@[simp] theorem State.setPc_running (s : State) (v : Word) : (s.setPc v).running = s.running := rfl
@[simp] theorem State.setPc_ram (s : State) (v : Word) : (s.setPc v).ram = s.ram := rfl
@[simp] theorem State.setPc_ports (s : State) (v : Word) : (s.setPc v).ports = s.ports := rfl
@[simp] theorem State.setPc_ppu (s : State) (v : Word) : (s.setPc v).ppu = s.ppu := rfl
@[simp] theorem State.setPc_apu (s : State) (v : Word) : (s.setPc v).apu = s.apu := rfl
@[simp] theorem State.setPc_cart (s : State) (v : Word) : (s.setPc v).cart = s.cart := rfl
@[simp] theorem State.setPc_mapper (s : State) (v : Word) : (s.setPc v).mapper = s.mapper := rfl
@[simp] theorem State.setPc_params (s : State) (v : Word) : (s.setPc v).params = s.params := rfl
@[simp] theorem State.setPc_draws (s : State) (v : Word) : (s.setPc v).draws = s.draws := rfl
@[simp] theorem State.setPc_cost (s : State) (v : Word) : (s.setPc v).cost = s.cost := rfl
@[simp] theorem State.setPc_dmaCycles (s : State) (v : Word) : (s.setPc v).dmaCycles = s.dmaCycles := rfl
@[simp] theorem State.setPc_stallPending (s : State) (v : Word) : (s.setPc v).stallPending = s.stallPending := rfl

@[simp] theorem State.setP_cpu_a (s : State) (v : Flags) : (s.setP v).cpu.a = s.cpu.a := rfl
@[simp] theorem State.setP_cpu_x (s : State) (v : Flags) : (s.setP v).cpu.x = s.cpu.x := rfl
@[simp] theorem State.setP_cpu_y (s : State) (v : Flags) : (s.setP v).cpu.y = s.cpu.y := rfl
@[simp] theorem State.setP_cpu_s (s : State) (v : Flags) : (s.setP v).cpu.s = s.cpu.s := rfl
@[simp] theorem State.setP_cpu_pc (s : State) (v : Flags) : (s.setP v).cpu.pc = s.cpu.pc := rfl
@[simp] theorem State.setP_cpu_p (s : State) (v : Flags) : (s.setP v).cpu.p = v := rfl
@[simp] theorem State.setP_nmiPending (s : State) (v : Flags) : (s.setP v).nmiPending = s.nmiPending := rfl
@[simp] theorem State.setP_fault (s : State) (v : Flags) : (s.setP v).fault = s.fault := rfl
@[simp] theorem State.setP_cpuCycles (s : State) (v : Flags) : (s.setP v).cpuCycles = s.cpuCycles := rfl
@[simp] theorem State.setP_running (s : State) (v : Flags) : (s.setP v).running = s.running := rfl
@[simp] theorem State.setP_ram (s : State) (v : Flags) : (s.setP v).ram = s.ram := rfl
@[simp] theorem State.setP_ports (s : State) (v : Flags) : (s.setP v).ports = s.ports := rfl
@[simp] theorem State.setP_ppu (s : State) (v : Flags) : (s.setP v).ppu = s.ppu := rfl
@[simp] theorem State.setP_apu (s : State) (v : Flags) : (s.setP v).apu = s.apu := rfl
@[simp] theorem State.setP_cart (s : State) (v : Flags) : (s.setP v).cart = s.cart := rfl
@[simp] theorem State.setP_mapper (s : State) (v : Flags) : (s.setP v).mapper = s.mapper := rfl
@[simp] theorem State.setP_params (s : State) (v : Flags) : (s.setP v).params = s.params := rfl
@[simp] theorem State.setP_draws (s : State) (v : Flags) : (s.setP v).draws = s.draws := rfl
@[simp] theorem State.setP_cost (s : State) (v : Flags) : (s.setP v).cost = s.cost := rfl
@[simp] theorem State.setP_dmaCycles (s : State) (v : Flags) : (s.setP v).dmaCycles = s.dmaCycles := rfl
@[simp] theorem State.setP_stallPending (s : State) (v : Flags) : (s.setP v).stallPending = s.stallPending := rfl

@[simp] theorem State.setCost_cpu (s : State) (v : Nat) : (s.setCost v).cpu = s.cpu := rfl
@[simp] theorem State.setCost_nmiPending (s : State) (v : Nat) : (s.setCost v).nmiPending = s.nmiPending := rfl
@[simp] theorem State.setCost_fault (s : State) (v : Nat) : (s.setCost v).fault = s.fault := rfl
@[simp] theorem State.setCost_cpuCycles (s : State) (v : Nat) : (s.setCost v).cpuCycles = s.cpuCycles := rfl
@[simp] theorem State.setCost_running (s : State) (v : Nat) : (s.setCost v).running = s.running := rfl
@[simp] theorem State.setCost_ram (s : State) (v : Nat) : (s.setCost v).ram = s.ram := rfl
@[simp] theorem State.setCost_ports (s : State) (v : Nat) : (s.setCost v).ports = s.ports := rfl
@[simp] theorem State.setCost_ppu (s : State) (v : Nat) : (s.setCost v).ppu = s.ppu := rfl
@[simp] theorem State.setCost_apu (s : State) (v : Nat) : (s.setCost v).apu = s.apu := rfl
@[simp] theorem State.setCost_cart (s : State) (v : Nat) : (s.setCost v).cart = s.cart := rfl
@[simp] theorem State.setCost_mapper (s : State) (v : Nat) : (s.setCost v).mapper = s.mapper := rfl
@[simp] theorem State.setCost_params (s : State) (v : Nat) : (s.setCost v).params = s.params := rfl
@[simp] theorem State.setCost_draws (s : State) (v : Nat) : (s.setCost v).draws = s.draws := rfl
@[simp] theorem State.setCost_cost (s : State) (v : Nat) : (s.setCost v).cost = v := rfl
@[simp] theorem State.setCost_dmaCycles (s : State) (v : Nat) : (s.setCost v).dmaCycles = s.dmaCycles := rfl
@[simp] theorem State.setCost_stallPending (s : State) (v : Nat) : (s.setCost v).stallPending = s.stallPending := rfl

@[simp] theorem State.setNZ_cpu_a (s : State) (v : Byte) : (s.setNZ v).cpu.a = s.cpu.a := rfl
@[simp] theorem State.setNZ_cpu_x (s : State) (v : Byte) : (s.setNZ v).cpu.x = s.cpu.x := rfl
@[simp] theorem State.setNZ_cpu_y (s : State) (v : Byte) : (s.setNZ v).cpu.y = s.cpu.y := rfl
@[simp] theorem State.setNZ_cpu_s (s : State) (v : Byte) : (s.setNZ v).cpu.s = s.cpu.s := rfl
@[simp] theorem State.setNZ_cpu_pc (s : State) (v : Byte) : (s.setNZ v).cpu.pc = s.cpu.pc := rfl
@[simp] theorem State.setNZ_cpu_p (s : State) (v : Byte) : (s.setNZ v).cpu.p = Flags.nz s.cpu.p v := rfl
@[simp] theorem State.setNZ_nmiPending (s : State) (v : Byte) : (s.setNZ v).nmiPending = s.nmiPending := rfl
@[simp] theorem State.setNZ_fault (s : State) (v : Byte) : (s.setNZ v).fault = s.fault := rfl
@[simp] theorem State.setNZ_cpuCycles (s : State) (v : Byte) : (s.setNZ v).cpuCycles = s.cpuCycles := rfl
@[simp] theorem State.setNZ_running (s : State) (v : Byte) : (s.setNZ v).running = s.running := rfl
@[simp] theorem State.setNZ_ram (s : State) (v : Byte) : (s.setNZ v).ram = s.ram := rfl
@[simp] theorem State.setNZ_ports (s : State) (v : Byte) : (s.setNZ v).ports = s.ports := rfl
@[simp] theorem State.setNZ_ppu (s : State) (v : Byte) : (s.setNZ v).ppu = s.ppu := rfl
@[simp] theorem State.setNZ_apu (s : State) (v : Byte) : (s.setNZ v).apu = s.apu := rfl
@[simp] theorem State.setNZ_cart (s : State) (v : Byte) : (s.setNZ v).cart = s.cart := rfl
@[simp] theorem State.setNZ_mapper (s : State) (v : Byte) : (s.setNZ v).mapper = s.mapper := rfl
@[simp] theorem State.setNZ_params (s : State) (v : Byte) : (s.setNZ v).params = s.params := rfl
@[simp] theorem State.setNZ_draws (s : State) (v : Byte) : (s.setNZ v).draws = s.draws := rfl
@[simp] theorem State.setNZ_cost (s : State) (v : Byte) : (s.setNZ v).cost = s.cost := rfl
@[simp] theorem State.setNZ_dmaCycles (s : State) (v : Byte) : (s.setNZ v).dmaCycles = s.dmaCycles := rfl
@[simp] theorem State.setNZ_stallPending (s : State) (v : Byte) : (s.setNZ v).stallPending = s.stallPending := rfl

@[simp] theorem State.charge_cpu (s : State) (v : Byte) : (s.charge v).cpu = s.cpu := rfl
@[simp] theorem State.charge_nmiPending (s : State) (v : Byte) : (s.charge v).nmiPending = s.nmiPending := rfl
@[simp] theorem State.charge_fault (s : State) (v : Byte) : (s.charge v).fault = s.fault := rfl
@[simp] theorem State.charge_cpuCycles (s : State) (v : Byte) : (s.charge v).cpuCycles = s.cpuCycles := rfl
@[simp] theorem State.charge_running (s : State) (v : Byte) : (s.charge v).running = s.running := rfl
@[simp] theorem State.charge_ram (s : State) (v : Byte) : (s.charge v).ram = s.ram := rfl
@[simp] theorem State.charge_ports (s : State) (v : Byte) : (s.charge v).ports = s.ports := rfl
@[simp] theorem State.charge_ppu (s : State) (v : Byte) : (s.charge v).ppu = s.ppu := rfl
@[simp] theorem State.charge_apu (s : State) (v : Byte) : (s.charge v).apu = s.apu := rfl
@[simp] theorem State.charge_cart (s : State) (v : Byte) : (s.charge v).cart = s.cart := rfl
@[simp] theorem State.charge_mapper (s : State) (v : Byte) : (s.charge v).mapper = s.mapper := rfl
@[simp] theorem State.charge_params (s : State) (v : Byte) : (s.charge v).params = s.params := rfl
@[simp] theorem State.charge_draws (s : State) (v : Byte) : (s.charge v).draws = s.draws := rfl
@[simp] theorem State.charge_cost (s : State) (v : Byte) : (s.charge v).cost = baseCost s.params v := rfl
@[simp] theorem State.charge_dmaCycles (s : State) (v : Byte) : (s.charge v).dmaCycles = s.dmaCycles := rfl
@[simp] theorem State.charge_stallPending (s : State) (v : Byte) : (s.charge v).stallPending = s.stallPending := rfl

@[simp] theorem State.addCost_cpu (s : State) (v : Nat) : (s.addCost v).cpu = s.cpu := rfl
@[simp] theorem State.addCost_nmiPending (s : State) (v : Nat) : (s.addCost v).nmiPending = s.nmiPending := rfl
@[simp] theorem State.addCost_fault (s : State) (v : Nat) : (s.addCost v).fault = s.fault := rfl
@[simp] theorem State.addCost_cpuCycles (s : State) (v : Nat) : (s.addCost v).cpuCycles = s.cpuCycles := rfl
@[simp] theorem State.addCost_running (s : State) (v : Nat) : (s.addCost v).running = s.running := rfl
@[simp] theorem State.addCost_ram (s : State) (v : Nat) : (s.addCost v).ram = s.ram := rfl
@[simp] theorem State.addCost_ports (s : State) (v : Nat) : (s.addCost v).ports = s.ports := rfl
@[simp] theorem State.addCost_ppu (s : State) (v : Nat) : (s.addCost v).ppu = s.ppu := rfl
@[simp] theorem State.addCost_apu (s : State) (v : Nat) : (s.addCost v).apu = s.apu := rfl
@[simp] theorem State.addCost_cart (s : State) (v : Nat) : (s.addCost v).cart = s.cart := rfl
@[simp] theorem State.addCost_mapper (s : State) (v : Nat) : (s.addCost v).mapper = s.mapper := rfl
@[simp] theorem State.addCost_params (s : State) (v : Nat) : (s.addCost v).params = s.params := rfl
@[simp] theorem State.addCost_draws (s : State) (v : Nat) : (s.addCost v).draws = s.draws := rfl
@[simp] theorem State.addCost_cost (s : State) (v : Nat) : (s.addCost v).cost = s.cost + v := rfl
@[simp] theorem State.addCost_dmaCycles (s : State) (v : Nat) : (s.addCost v).dmaCycles = s.dmaCycles := rfl
@[simp] theorem State.addCost_stallPending (s : State) (v : Nat) : (s.addCost v).stallPending = s.stallPending := rfl

@[simp] theorem State.skip_cpu_a (s : State) (v : Nat) : (s.skip v).cpu.a = s.cpu.a := rfl
@[simp] theorem State.skip_cpu_x (s : State) (v : Nat) : (s.skip v).cpu.x = s.cpu.x := rfl
@[simp] theorem State.skip_cpu_y (s : State) (v : Nat) : (s.skip v).cpu.y = s.cpu.y := rfl
@[simp] theorem State.skip_cpu_s (s : State) (v : Nat) : (s.skip v).cpu.s = s.cpu.s := rfl
@[simp] theorem State.skip_cpu_pc (s : State) (v : Nat) : (s.skip v).cpu.pc = s.cpu.pc + BitVec.ofNat 16 v := rfl
@[simp] theorem State.skip_cpu_p (s : State) (v : Nat) : (s.skip v).cpu.p = s.cpu.p := rfl
@[simp] theorem State.skip_nmiPending (s : State) (v : Nat) : (s.skip v).nmiPending = s.nmiPending := rfl
@[simp] theorem State.skip_fault (s : State) (v : Nat) : (s.skip v).fault = s.fault := rfl
@[simp] theorem State.skip_cpuCycles (s : State) (v : Nat) : (s.skip v).cpuCycles = s.cpuCycles := rfl
@[simp] theorem State.skip_running (s : State) (v : Nat) : (s.skip v).running = s.running := rfl
@[simp] theorem State.skip_ram (s : State) (v : Nat) : (s.skip v).ram = s.ram := rfl
@[simp] theorem State.skip_ports (s : State) (v : Nat) : (s.skip v).ports = s.ports := rfl
@[simp] theorem State.skip_ppu (s : State) (v : Nat) : (s.skip v).ppu = s.ppu := rfl
@[simp] theorem State.skip_apu (s : State) (v : Nat) : (s.skip v).apu = s.apu := rfl
@[simp] theorem State.skip_cart (s : State) (v : Nat) : (s.skip v).cart = s.cart := rfl
@[simp] theorem State.skip_mapper (s : State) (v : Nat) : (s.skip v).mapper = s.mapper := rfl
@[simp] theorem State.skip_params (s : State) (v : Nat) : (s.skip v).params = s.params := rfl
@[simp] theorem State.skip_draws (s : State) (v : Nat) : (s.skip v).draws = s.draws := rfl
@[simp] theorem State.skip_cost (s : State) (v : Nat) : (s.skip v).cost = s.cost := rfl
@[simp] theorem State.skip_dmaCycles (s : State) (v : Nat) : (s.skip v).dmaCycles = s.dmaCycles := rfl
@[simp] theorem State.skip_stallPending (s : State) (v : Nat) : (s.skip v).stallPending = s.stallPending := rfl

@[simp] theorem State.addCycles_cpu (s : State) (v : Nat) : (s.addCycles v).cpu = s.cpu := rfl
@[simp] theorem State.addCycles_nmiPending (s : State) (v : Nat) : (s.addCycles v).nmiPending = s.nmiPending := rfl
@[simp] theorem State.addCycles_fault (s : State) (v : Nat) : (s.addCycles v).fault = s.fault := rfl
@[simp] theorem State.addCycles_cpuCycles (s : State) (v : Nat) : (s.addCycles v).cpuCycles = s.cpuCycles + v := rfl
@[simp] theorem State.addCycles_running (s : State) (v : Nat) : (s.addCycles v).running = s.running := rfl
@[simp] theorem State.addCycles_ram (s : State) (v : Nat) : (s.addCycles v).ram = s.ram := rfl
@[simp] theorem State.addCycles_ports (s : State) (v : Nat) : (s.addCycles v).ports = s.ports := rfl
@[simp] theorem State.addCycles_ppu (s : State) (v : Nat) : (s.addCycles v).ppu = s.ppu := rfl
@[simp] theorem State.addCycles_apu (s : State) (v : Nat) : (s.addCycles v).apu = s.apu := rfl
@[simp] theorem State.addCycles_cart (s : State) (v : Nat) : (s.addCycles v).cart = s.cart := rfl
@[simp] theorem State.addCycles_mapper (s : State) (v : Nat) : (s.addCycles v).mapper = s.mapper := rfl
@[simp] theorem State.addCycles_params (s : State) (v : Nat) : (s.addCycles v).params = s.params := rfl
@[simp] theorem State.addCycles_draws (s : State) (v : Nat) : (s.addCycles v).draws = s.draws := rfl
@[simp] theorem State.addCycles_cost (s : State) (v : Nat) : (s.addCycles v).cost = s.cost := rfl
@[simp] theorem State.addCycles_dmaCycles (s : State) (v : Nat) : (s.addCycles v).dmaCycles = s.dmaCycles := rfl
@[simp] theorem State.addCycles_stallPending (s : State) (v : Nat) : (s.addCycles v).stallPending = s.stallPending := rfl

@[simp] theorem clearLocals_nmiPending (s : State) : (clearLocals s).nmiPending = s.nmiPending := rfl
@[simp] theorem clearLocals_fault (s : State) : (clearLocals s).fault = s.fault := rfl
@[simp] theorem clearLocals_cpuCycles (s : State) : (clearLocals s).cpuCycles = s.cpuCycles := rfl
@[simp] theorem clearLocals_running (s : State) : (clearLocals s).running = s.running := rfl
@[simp] theorem clearLocals_ram (s : State) : (clearLocals s).ram = s.ram := rfl
@[simp] theorem clearLocals_ports (s : State) : (clearLocals s).ports = s.ports := rfl
@[simp] theorem clearLocals_ppu (s : State) : (clearLocals s).ppu = s.ppu := rfl
@[simp] theorem clearLocals_apu (s : State) : (clearLocals s).apu = s.apu := rfl
@[simp] theorem clearLocals_cart (s : State) : (clearLocals s).cart = s.cart := rfl
@[simp] theorem clearLocals_mapper (s : State) : (clearLocals s).mapper = s.mapper := rfl
@[simp] theorem clearLocals_params (s : State) : (clearLocals s).params = s.params := rfl
@[simp] theorem clearLocals_draws (s : State) : (clearLocals s).draws = s.draws := rfl
@[simp] theorem clearLocals_cost (s : State) : (clearLocals s).cost = 0 := rfl
@[simp] theorem clearLocals_dmaCycles (s : State) : (clearLocals s).dmaCycles = 0 := rfl
@[simp] theorem clearLocals_stallPending (s : State) : (clearLocals s).stallPending = 0 := rfl
@[simp] theorem clearLocals_cpu (s : State) : (clearLocals s).cpu = s.cpu := rfl

@[simp] theorem Flags.nz_c (p : Flags) (v : Byte) : (Flags.nz p v).c = p.c := rfl
@[simp] theorem Flags.nz_i (p : Flags) (v : Byte) : (Flags.nz p v).i = p.i := rfl
@[simp] theorem Flags.nz_d (p : Flags) (v : Byte) : (Flags.nz p v).d = p.d := rfl
@[simp] theorem Flags.nz_v (p : Flags) (v : Byte) : (Flags.nz p v).v = p.v := rfl
@[simp] theorem Flags.nz_n (p : Flags) (v : Byte) : (Flags.nz p v).n = v.getLsbD 7 := rfl
@[simp] theorem Flags.nz_z (p : Flags) (v : Byte) : (Flags.nz p v).z = (v == 0) := rfl

end Sys2Proof.Machine
end

