-- ==== Sys2Proof/Laws/Ops.lean ====
section
/-! SUPPORT. One law for each shared operation, saying once everything it does: the stack, exception entry and return, the
operand forms. The stack and the zero page are RAM, so their accesses have no side effect (R214). -/

namespace Sys2Proof.Machine

@[simp] theorem mkWord_toNat (hi lo : Byte) : (mkWord hi lo).toNat = hi.toNat * 256 + lo.toNat := by
  have h := hi.isLt
  have h2 := lo.isLt
  simp only [mkWord, BitVec.toNat_append, Nat.shiftLeft_eq]
  rw [← Nat.shiftLeft_eq, Nat.shiftLeft_add_eq_or_of_lt (by omega) hi.toNat |>.symm, Nat.shiftLeft_eq]

@[simp] theorem mkWord_bytes (w : Word) : mkWord (hiByte w) (loByte w) = w := by
  apply BitVec.eq_of_toNat_eq
  have h := w.isLt
  simp [hiByte, loByte, BitVec.extractLsb'_toNat, Nat.shiftRight_eq_div_pow]
  omega

@[simp] theorem hiByte_mkWord (hi lo : Byte) : hiByte (mkWord hi lo) = hi := by
  apply BitVec.eq_of_toNat_eq
  have h := hi.isLt
  have h2 := lo.isLt
  simp [hiByte, BitVec.extractLsb'_toNat, Nat.shiftRight_eq_div_pow]
  omega

@[simp] theorem loByte_mkWord (hi lo : Byte) : loByte (mkWord hi lo) = lo := by
  apply BitVec.eq_of_toNat_eq
  have h := hi.isLt
  have h2 := lo.isLt
  simp [loByte, BitVec.extractLsb'_toNat]
  omega

@[simp] theorem zext16_toNat (b : Byte) : (zext16 b).toNat = b.toNat := by
  have h := b.isLt
  simp [zext16]
  omega

@[simp] theorem stackAddr_toNat (sp : Byte) : (stackAddr sp).toNat = 0x100 + sp.toNat := by
  simp [stackAddr]

theorem stackAddr_lt (sp : Byte) : (stackAddr sp).toNat < 0x2000 := by
  have h := sp.isLt
  simp
  omega

theorem stackAddr_inj {p q : Byte} (h : stackAddr p = stackAddr q) : p = q := by
  have := congrArg loByte h
  simpa [stackAddr] using this

/-- A push: the cell S names, then S - 1 (R17). -/
theorem push_eq (v : Byte) (s : State) :
    push v s = { s with ram := cellsWrite s.ram (0x100 + s.cpu.s.toNat) v, cpu := { s.cpu with s := s.cpu.s - 1 } } := by
  have h := s.cpu.s.isLt
  have hm : (0x100 + s.cpu.s.toNat) % 0x800 = 0x100 + s.cpu.s.toNat := by omega
  simp only [push, busWrite_ramRange (stackAddr_lt _), State.setS, stackAddr_toNat, hm]

/-- A pull: S + 1, then the cell S names (R17). -/
theorem pull_eq (s : State) :
    pull s = (cellsRead s.ram (0x100 + (s.cpu.s + 1).toNat), { s with cpu := { s.cpu with s := s.cpu.s + 1 } }) := by
  have h := (s.cpu.s + 1).isLt
  have hm : (0x100 + (s.cpu.s + 1).toNat) % 0x800 = 0x100 + (s.cpu.s + 1).toNat := by omega
  simp only [pull, State.setS, busRead_ramRange (stackAddr_lt _), stackAddr_toNat, hm]

/-- The two pushes of an address (R311, R313, R715). -/
theorem pushWord_eq (w : Word) (s : State) :
    pushWord w s =
      { s with
        ram := cellsWrite (cellsWrite s.ram (0x100 + s.cpu.s.toNat) (hiByte w)) (0x100 + (s.cpu.s - 1).toNat) (loByte w),
        cpu := { s.cpu with s := s.cpu.s - 1 - 1 } } := by
  simp only [pushWord, push_eq]

/-- The two pulls of an address (R312, R314). -/
theorem pullWord_eq (s : State) :
    pullWord s =
      (mkWord (cellsRead s.ram (0x100 + (s.cpu.s + 1 + 1).toNat)) (cellsRead s.ram (0x100 + (s.cpu.s + 1).toNat)),
        { s with cpu := { s.cpu with s := s.cpu.s + 1 + 1 } }) := by
  simp only [pullWord, pull_eq]

/-- A 16-bit read of PRG ROM has no side effect (R16, R620). -/
theorem read16_prg {a : Word} (h : 0x8000 ≤ a.toNat) (h1 : 0x8000 ≤ (a + 1).toNat) (s : State) :
    read16 a s = (mkWord (prgByte s (a + 1)) (prgByte s a), s) := by
  simp only [read16, busRead_prg h, busRead_prg h1]

/-- A zero-page pointer is read without a side effect (R214). -/
theorem read16zp_eq (p : Byte) (s : State) :
    read16zp p s = (mkWord (cellsRead s.ram (p + 1).toNat) (cellsRead s.ram p.toNat), s) := by
  have h := p.isLt
  have h1 := (p + 1).isLt
  have e : p.toNat % 0x800 = p.toNat := by omega
  have e1 : (p + 1).toNat % 0x800 = (p + 1).toNat := by omega
  simp only [read16zp, busRead_ramRange (a := zext16 p) (by rw [zext16_toNat]; omega),
    busRead_ramRange (a := zext16 (p + 1)) (by rw [zext16_toNat]; omega), zext16_toNat, e, e1]

/-- Taking an exception, in one update (R313, R715). -/
theorem takeException_eq {vec : Word} (h : 0x8000 ≤ vec.toNat) (h1 : 0x8000 ≤ (vec + 1).toNat) (ret : Word) (b : Bool)
    (s : State) :
    takeException ret b vec s =
      { s with
        ram := cellsWrite
          (cellsWrite (cellsWrite s.ram (0x100 + s.cpu.s.toNat) (hiByte ret)) (0x100 + (s.cpu.s - 1).toNat) (loByte ret))
          (0x100 + (s.cpu.s - 1 - 1).toNat) (statusImage s.cpu.p b),
        cpu := { s.cpu with s := s.cpu.s - 1 - 1 - 1, p := { s.cpu.p with i := true }, pc := vectorWord s vec } } := by
  simp only [takeException, pushWord_eq, push_eq, State.setP, read16_prg h h1, State.setPc]
  rfl

/-- Returning from an exception, in one update (R314). -/
theorem returnFromException_eq (s : State) :
    returnFromException s =
      { s with cpu := { s.cpu with
          s := s.cpu.s + 1 + 1 + 1,
          p := statusFlags (cellsRead s.ram (0x100 + (s.cpu.s + 1).toNat)),
          pc := mkWord (cellsRead s.ram (0x100 + (s.cpu.s + 1 + 1 + 1).toNat))
            (cellsRead s.ram (0x100 + (s.cpu.s + 1 + 1).toNat)) } } := by
  simp only [returnFromException, pull_eq, pullWord_eq, State.setP, State.setPc]

/-- What P restores from its own image: every flag (R36). -/
@[simp] theorem statusFlags_statusImage (p : Flags) (b : Bool) : statusFlags (statusImage p b) = p := by
  obtain ⟨c, z, i, d, v, n⟩ := p
  cases c <;> cases z <;> cases i <;> cases d <;> cases v <;> cases n <;> cases b <;> rfl

/-- Resolving an operand changes nothing: the pointer bytes are zero-page RAM (R214). -/
@[simp] theorem resolve_st (o : Operand) (s : State) : (resolve o s).st = s := by
  cases o <;> simp [resolve, read16zp_eq]

/-- The penalty changes the cost alone (R188). -/
@[simp] theorem crossPenalty_resolve (o : Operand) (s : State) :
    crossPenalty (resolve o s) = s.addCost (bitNat (resolve o s).crossed) := by
  unfold crossPenalty
  split <;> simp_all [bitNat, State.addCost, State.setCost]

/-- The operand of a reading form: the immediate, or one bus read of the effective address (R20, R176, R188). -/
theorem readOperand_eq (o : Operand) (s : State) :
    readOperand o s =
      match o with
      | .imm b => (b, s)
      | o => busRead (resolve o s).ea (s.addCost (bitNat (resolve o s).crossed)) := by
  cases o <;> simp [readOperand]

@[simp] theorem readOperand_cpu (o : Operand) (s : State) : (readOperand o s).2.cpu = s.cpu := by
  cases o <;> simp [readOperand_eq]
@[simp] theorem readOperand_ram (o : Operand) (s : State) : (readOperand o s).2.ram = s.ram := by
  cases o <;> simp [readOperand_eq]
@[simp] theorem readOperand_cart (o : Operand) (s : State) : (readOperand o s).2.cart = s.cart := by
  cases o <;> simp [readOperand_eq]
@[simp] theorem readOperand_mapper (o : Operand) (s : State) : (readOperand o s).2.mapper = s.mapper := by
  cases o <;> simp [readOperand_eq]
@[simp] theorem readOperand_params (o : Operand) (s : State) : (readOperand o s).2.params = s.params := by
  cases o <;> simp [readOperand_eq]
@[simp] theorem readOperand_fault (o : Operand) (s : State) : (readOperand o s).2.fault = s.fault := by
  cases o <;> simp [readOperand_eq]
@[simp] theorem readOperand_running (o : Operand) (s : State) : (readOperand o s).2.running = s.running := by
  cases o <;> simp [readOperand_eq]
@[simp] theorem readOperand_cpuCycles (o : Operand) (s : State) : (readOperand o s).2.cpuCycles = s.cpuCycles := by
  cases o <;> simp [readOperand_eq]
@[simp] theorem readOperand_dmaCycles (o : Operand) (s : State) : (readOperand o s).2.dmaCycles = s.dmaCycles := by
  cases o <;> simp [readOperand_eq]
@[simp] theorem readOperand_nmiPending (o : Operand) (s : State) : (readOperand o s).2.nmiPending = s.nmiPending := by
  cases o <;> simp [readOperand_eq]

/-- The cost of an instruction is charged in one field (R651). -/
theorem charge_cpu (s : State) (op : Byte) : (s.charge op).cpu = s.cpu := rfl

/-- A reading instruction whose effect changes the CPU alone, in one update (R20, R176, R188). -/
theorem readInstr_eq {effect : Byte → State → State} {g : Byte → Cpu → Cpu}
    (h : ∀ m s, effect m s = { s with cpu := g m s.cpu }) (hpc : ∀ m k, (g m k).pc = k.pc) (op : Byte) (o : Operand)
    (s : State) :
    readInstr op o effect s =
      { (readOperand o (s.charge op)).2 with
        cpu := { g (readOperand o (s.charge op)).1 s.cpu with pc := s.cpu.pc + BitVec.ofNat 16 (operandLength o) } } := by
  simp only [readInstr, h, State.skip, State.setPc, readOperand_cpu, hpc, charge_cpu]

/-- A storing instruction, in one update (R188, R213). -/
theorem storeInstr_eq (op : Byte) (o : Operand) (value : Cpu → Byte) (s : State) :
    storeInstr op o value s =
      { busWrite (resolve o (s.charge op)).ea (value s.cpu) (s.charge op) with
        cpu := { s.cpu with pc := s.cpu.pc + BitVec.ofNat 16 (operandLength o) } } := by
  simp only [storeInstr, resolve_st, State.skip, State.setPc, busWrite_cpu, charge_cpu]

/-- A read-modify-write instruction whose combination changes the CPU alone, in one update: one read of its address, one
write (R153, R188). -/
theorem rmwInstr_eq {combine : Byte → State → State} {g : Byte → Cpu → Cpu}
    (h : ∀ r s, combine r s = { s with cpu := g r s.cpu }) (hpc : ∀ r k, (g r k).pc = k.pc) (op : Byte) (o : Operand)
    (alu : Flags → Byte → Byte × Flags) (s : State) :
    rmwInstr op o alu combine s =
      (let ea := (resolve o (s.charge op)).ea
       let m := busRead ea (s.charge op)
       let res := alu s.cpu.p m.1
       { busWrite ea res.1 m.2 with
         cpu := { g res.1 { s.cpu with p := res.2 } with pc := s.cpu.pc + BitVec.ofNat 16 (operandLength o) } }) := by
  simp only [rmwInstr, resolve_st, State.setP, busRead_cpu, busWrite_withCpu, h, State.skip, State.setPc, hpc, charge_cpu]

end Sys2Proof.Machine
end

