-- ==== Sys2Proof/Laws/HostOps.lean ====
section
/-! SUPPORT. The reset state is what power-on computes from the spec's own sequence (R800, R801), and loading the empty image
gives it. What a load reports, and what a session gives back. -/

namespace Sys2Proof.Machine

/-- The bytes of the smallest valid image: the magic and no bank (R600, log 4). -/
def emptyImage : List Byte := [0x4E, 0x45, 0x53, 0x1A]

/-- Power-on with the empty cartridge computes the reset state, field by field (R801). -/
theorem reset_is_power_on : powerOn [] [] State.reset = State.reset := by rfl

/-- Loading the empty image gives the reset state (R601, R608). -/
theorem reset_is_empty_load (n : Nat) : (loadImage n emptyImage none State.reset).2 = State.reset := by rfl

/-- The number of a load has no part in the state after it (R695). -/
@[simp] theorem loadImage_state (n : Nat) (img : List Byte) (saved : Option (List Byte)) (s : State) :
    (loadImage n img saved s).2 = act (.loadImage img saved) s := rfl

/-- A load makes one error call for each error it reports, and every other call is a progress call (R601, R630). -/
@[simp] theorem calls_error? (r : LoadReport) : r.calls.filterMap LoadCall.error? = r.errors := by
  have progress : ∀ ps : List Rat, (ps.map LoadCall.progress).filterMap LoadCall.error? = [] := by
    intro ps; simp [List.filterMap_map, Function.comp_def, LoadCall.error?]
  simp [LoadReport.calls, progress, List.filterMap_map, Function.comp_def, LoadCall.error?]

/-- A load of an image without the magic reports it once; any other reports at most the mapper (R601, R630). -/
theorem loadReport_errors (n : Nat) (img : List Byte) (par : Params) :
    (loadReport n img par).errors =
      if imageMagicOk img then
        if mapperRegistered (parseCart par img).mapperId then [] else [.unsupportedMapper]
      else [.invalidFormat] := by
  unfold loadReport
  split <;> rfl

/-- Each transition gives the host one reply (R695). -/
@[simp] theorem replies_length : ∀ (n : Nat) (as : List Action) (s : State), (replies n as s).length = as.length
  | _, [], _ => rfl
  | n, a :: as, s => by simp [replies, replies_length (n + 1) as]

/-- The reset sequence before its 7 cycles, in one update (R800). -/
theorem resetSequence_eq (s : State) :
    resetSequence s =
      advance 7
        { s with
          ppu := ppuReset s.ppu, apu := apuReset s.apu, mapper := mapperSlots s.cart s.mapper, nmiPending := false,
          cpu := { s.cpu with
            s := s.cpu.s - s.params.resetSpDecrement, p := { s.cpu.p with i := true },
            pc := vectorWord { s with mapper := mapperSlots s.cart s.mapper } resetVector } } := by
  simp only [resetSequence, resetEntry, State.setS, State.setP, read16_prg (a := resetVector) (by decide) (by decide), State.setPc]
  rfl

end Sys2Proof.Machine
end

