-- ==== Sys2Proof/Laws/Sched.lean ====
section
/-! SUPPORT. What the devices can change while they run, said once for each operation of the scheduler: neither the CPU, nor RAM,
nor the cartridge, nor the mapper, nor the parameters. -/

namespace Sys2Proof.Machine

/-- Everything a running device leaves alone. -/
def keepsRun (s t : State) : Prop :=
  t.cpu = s.cpu ∧ t.fault = s.fault ∧ t.running = s.running ∧ t.ram = s.ram ∧ t.cart = s.cart ∧ t.mapper = s.mapper ∧
    t.params = s.params ∧ t.cost = s.cost ∧ t.dmaCycles = s.dmaCycles

theorem keepsRun_refl (s : State) : keepsRun s s := ⟨rfl, rfl, rfl, rfl, rfl, rfl, rfl, rfl, rfl⟩

theorem keepsRun_trans {s t u : State} (h : keepsRun s t) (k : keepsRun t u) : keepsRun s u := by
  simp_all [keepsRun]

theorem ppuTick_keeps (s : State) : keepsRun s (ppuTick s) := ⟨rfl, rfl, rfl, rfl, rfl, rfl, rfl, rfl, rfl⟩

theorem iterate_keeps {f : State → State} (hf : ∀ s, keepsRun s (f s)) : ∀ (n : Nat) (s : State), keepsRun s (iterate f n s)
  | 0, s => keepsRun_refl s
  | n + 1, s => keepsRun_trans (hf s) (iterate_keeps hf n (f s))

theorem apuTick_keeps (k : Nat) (s : State) : keepsRun s (apuTick k s) := by
  simp [apuTick, keepsRun]

theorem apuTicks_keeps : ∀ (n k : Nat) (s : State), keepsRun s (apuTicks n k s)
  | 0, _, s => keepsRun_refl s
  | n + 1, k, s => keepsRun_trans (apuTick_keeps k s) (apuTicks_keeps n (k + 1) _)

/-- The PPU's dots count no CPU cycle. -/
theorem iterate_ppuTick_cpuCycles : ∀ (n : Nat) (s : State), (iterate ppuTick n s).cpuCycles = s.cpuCycles
  | 0, _ => rfl
  | n + 1, s => iterate_ppuTick_cpuCycles n (ppuTick s)

/-- Nor do the APU's ticks. -/
theorem apuTicks_cpuCycles : ∀ (n k : Nat) (s : State), (apuTicks n k s).cpuCycles = s.cpuCycles
  | 0, _, _ => rfl
  | n + 1, k, s => by
    unfold apuTicks
    rw [apuTicks_cpuCycles]
    simp [apuTick]

/-- What an advance of the devices leaves alone (R652). -/
theorem advance_keeps (n : Nat) (s : State) : keepsRun s (advance n s) := by
  have h := keepsRun_trans (iterate_keeps ppuTick_keeps (3 * n) s) (apuTicks_keeps n s.cpuCycles _)
  exact keepsRun_trans h ⟨rfl, rfl, rfl, rfl, rfl, rfl, rfl, rfl, rfl⟩

theorem drainRounds_keeps : ∀ (fuel : Nat) (s : State), keepsRun s (drainRounds fuel s)
  | 0, s => keepsRun_refl s
  | fuel + 1, s => by
    unfold drainRounds
    split
    · exact keepsRun_refl s
    · have h1 : keepsRun s { s with stallPending := 0 } := ⟨rfl, rfl, rfl, rfl, rfl, rfl, rfl, rfl, rfl⟩
      exact keepsRun_trans (keepsRun_trans h1 (advance_keeps _ _)) (drainRounds_keeps fuel _)

/-- What draining the stalls leaves alone (R653). -/
theorem drainStalls_keeps (s : State) : keepsRun s (drainStalls s) := drainRounds_keeps _ s

/-- What running the devices for an instruction leaves alone (R650). -/
theorem devicesRun_keeps (n : Nat) (s : State) : keepsRun s (drainStalls (advance n s)) :=
  keepsRun_trans (advance_keeps n s) (drainStalls_keeps _)

theorem peek_keepsRun {s t : State} (h : keepsRun s t) (a : Word) : peek t a = peek s a :=
  peek_congr h.2.2.2.1 h.2.2.2.2.1 h.2.2.2.2.2.1 h.2.2.2.2.2.2.1 a

end Sys2Proof.Machine
end

