-- ==== Sys2Proof/Laws/Output.lean ====
section
/-! SUPPORT. What one call of `Advance(n)` gives the sinks, and that the calls listed for a drain are the ones it makes; what
the sound switch does. -/

namespace Sys2Proof.Machine

/-- One level for each APU tick (R501, R581). -/
@[simp] theorem ticksLevels_length : ∀ (n k : Nat) (s : State), (ticksLevels n k s).length = n
  | 0, _, _ => rfl
  | n + 1, k, s => by simp [ticksLevels, ticksLevels_length n]

@[simp] theorem callLevels_length (c : Nat × State) : (callLevels c).length = c.1 := ticksLevels_length _ _ _

/-- An advance counts its cycles (R47, R652). -/
theorem advance_cpuCycles (n : Nat) (s : State) : (advance n s).cpuCycles = s.cpuCycles + n := by
  simp [advance, mapperClock, State.addCycles, apuTicks_cpuCycles, iterate_ppuTick_cpuCycles]

/-- The cycles of a list of calls of `Advance(n)`. -/
def callCycles (cs : List (Nat × State)) : Nat := (cs.map Prod.fst).sum

/-- The levels of a list of calls are one for each of its cycles (R581, R652). -/
theorem callLevels_flatMap_length (cs : List (Nat × State)) : (cs.flatMap callLevels).length = callCycles cs := by
  simp [callCycles, List.length_flatMap]

/-- The calls listed for a drain count the cycles it counts (R653). -/
theorem drainCalls_cycles : ∀ (fuel : Nat) (s : State), (drainRounds fuel s).cpuCycles = s.cpuCycles + callCycles (drainCalls fuel s)
  | 0, _ => rfl
  | fuel + 1, s => by
    unfold drainRounds drainCalls
    split
    · rfl
    · rw [drainCalls_cycles fuel, advance_cpuCycles]
      simp only [callCycles, List.map_cons, List.sum_cons]
      omega

/-- The calls of an advance and its stalls count the cycles of both (R650, R653). -/
theorem advanceCalls_cycles (n : Nat) (s : State) :
    (drainStalls (advance n s)).cpuCycles = s.cpuCycles + callCycles (advanceCalls n s) := by
  rw [drainStalls, drainCalls_cycles, advance_cpuCycles]
  simp only [advanceCalls, callCycles, List.map_cons, List.sum_cons]
  omega

/-- A dot offers a frame exactly at (241, 1): the buffer that was being written, which the swap brings to the front (R450, R453). -/
theorem mem_dotFrames {s : State} {fb : Cells 9} (h : fb ∈ dotFrames s) :
    s.ppu.scanline = 241 ∧ s.ppu.dot = 1 ∧ fb = (ppuTick s).ppu.fbFront := by
  unfold dotFrames at h
  split at h
  · simp_all
  · simp at h

/-- The switch off: every sample the sink receives is silent (R582). -/
theorem eq_zero_of_mem_sampleStream_off {mix : Mixer} {as : List Action} {s : State} {r : Rat}
    (h : r ∈ sampleStream mix false as s) : r = 0 := by
  obtain ⟨_, -, rfl⟩ := List.mem_map.1 h
  rfl

/-- The switch changes no sample's place: as many are delivered with it on or off (R582). -/
@[simp] theorem sampleStream_length (mix : Mixer) (soundOn : Bool) (as : List Action) (s : State) :
    (sampleStream mix soundOn as s).length = (resampledStream mix as s).length := by
  cases soundOn <;> simp [sampleStream, soundSwitch]

/-- The frames of a session are those of its first part, then those of the rest. -/
theorem overSession_append {α : Type} (out : Action → State → List α) :
    ∀ (as bs : List Action) (s : State),
      overSession out (as ++ bs) s = overSession out as s ++ overSession out bs (session as s)
  | [], _, _ => rfl
  | a :: as, bs, s => by simp [overSession, session, overSession_append out as bs]

end Sys2Proof.Machine
end

