-- ==== Sys2Proof/Laws/PerInstr.lean ====
section
/-! SUPPORT. A law for every instruction as syntax: the bytes the encoder writes have the length the decoder expects of their
opcode, from 1 to 3 (R170, R172, R191). -/

namespace Sys2Proof.Laws.EncodedForm

/-- The encoded bytes begin with an opcode whose length is their number. -/
def Statement (i : Instr) : Prop :=
  ∃ op rest, encode i = op :: rest ∧ opcodeLength op = 1 + rest.length ∧ rest.length ≤ 2

theorem brk : Statement (.brk) := ⟨_, _, rfl, rfl, by simp⟩
theorem oraIndx (b : Byte) : Statement (.oraIndx b) := ⟨_, _, rfl, rfl, by simp⟩
theorem jam02 : Statement (.jam02) := ⟨_, _, rfl, rfl, by simp⟩
theorem sloIndx (b : Byte) : Statement (.sloIndx b) := ⟨_, _, rfl, rfl, by simp⟩
theorem nopZp04 (b : Byte) : Statement (.nopZp04 b) := ⟨_, _, rfl, rfl, by simp⟩
theorem oraZp (b : Byte) : Statement (.oraZp b) := ⟨_, _, rfl, rfl, by simp⟩
theorem aslZp (b : Byte) : Statement (.aslZp b) := ⟨_, _, rfl, rfl, by simp⟩
theorem sloZp (b : Byte) : Statement (.sloZp b) := ⟨_, _, rfl, rfl, by simp⟩
theorem php : Statement (.php) := ⟨_, _, rfl, rfl, by simp⟩
theorem oraImm (b : Byte) : Statement (.oraImm b) := ⟨_, _, rfl, rfl, by simp⟩
theorem aslAcc : Statement (.aslAcc) := ⟨_, _, rfl, rfl, by simp⟩
theorem ancImm0B (b : Byte) : Statement (.ancImm0B b) := ⟨_, _, rfl, rfl, by simp⟩
theorem nopAbs (a : Word) : Statement (.nopAbs a) := ⟨_, _, rfl, rfl, by simp⟩
theorem oraAbs (a : Word) : Statement (.oraAbs a) := ⟨_, _, rfl, rfl, by simp⟩
theorem aslAbs (a : Word) : Statement (.aslAbs a) := ⟨_, _, rfl, rfl, by simp⟩
theorem sloAbs (a : Word) : Statement (.sloAbs a) := ⟨_, _, rfl, rfl, by simp⟩
theorem bpl (b : Byte) : Statement (.bpl b) := ⟨_, _, rfl, rfl, by simp⟩
theorem oraIndy (b : Byte) : Statement (.oraIndy b) := ⟨_, _, rfl, rfl, by simp⟩
theorem jam12 : Statement (.jam12) := ⟨_, _, rfl, rfl, by simp⟩
theorem sloIndy (b : Byte) : Statement (.sloIndy b) := ⟨_, _, rfl, rfl, by simp⟩
theorem nopZpx14 (b : Byte) : Statement (.nopZpx14 b) := ⟨_, _, rfl, rfl, by simp⟩
theorem oraZpx (b : Byte) : Statement (.oraZpx b) := ⟨_, _, rfl, rfl, by simp⟩
theorem aslZpx (b : Byte) : Statement (.aslZpx b) := ⟨_, _, rfl, rfl, by simp⟩
theorem sloZpx (b : Byte) : Statement (.sloZpx b) := ⟨_, _, rfl, rfl, by simp⟩
theorem clc : Statement (.clc) := ⟨_, _, rfl, rfl, by simp⟩
theorem oraAbsy (a : Word) : Statement (.oraAbsy a) := ⟨_, _, rfl, rfl, by simp⟩
theorem nopImpl1A : Statement (.nopImpl1A) := ⟨_, _, rfl, rfl, by simp⟩
theorem sloAbsy (a : Word) : Statement (.sloAbsy a) := ⟨_, _, rfl, rfl, by simp⟩
theorem nopAbsx1C (a : Word) : Statement (.nopAbsx1C a) := ⟨_, _, rfl, rfl, by simp⟩
theorem oraAbsx (a : Word) : Statement (.oraAbsx a) := ⟨_, _, rfl, rfl, by simp⟩
theorem aslAbsx (a : Word) : Statement (.aslAbsx a) := ⟨_, _, rfl, rfl, by simp⟩
theorem sloAbsx (a : Word) : Statement (.sloAbsx a) := ⟨_, _, rfl, rfl, by simp⟩
theorem jsr (a : Word) : Statement (.jsr a) := ⟨_, _, rfl, rfl, by simp⟩
theorem andIndx (b : Byte) : Statement (.andIndx b) := ⟨_, _, rfl, rfl, by simp⟩
theorem jam22 : Statement (.jam22) := ⟨_, _, rfl, rfl, by simp⟩
theorem rlaIndx (b : Byte) : Statement (.rlaIndx b) := ⟨_, _, rfl, rfl, by simp⟩
theorem bitZp (b : Byte) : Statement (.bitZp b) := ⟨_, _, rfl, rfl, by simp⟩
theorem andZp (b : Byte) : Statement (.andZp b) := ⟨_, _, rfl, rfl, by simp⟩
theorem rolZp (b : Byte) : Statement (.rolZp b) := ⟨_, _, rfl, rfl, by simp⟩
theorem rlaZp (b : Byte) : Statement (.rlaZp b) := ⟨_, _, rfl, rfl, by simp⟩
theorem plp : Statement (.plp) := ⟨_, _, rfl, rfl, by simp⟩
theorem andImm (b : Byte) : Statement (.andImm b) := ⟨_, _, rfl, rfl, by simp⟩
theorem rolAcc : Statement (.rolAcc) := ⟨_, _, rfl, rfl, by simp⟩
theorem ancImm2B (b : Byte) : Statement (.ancImm2B b) := ⟨_, _, rfl, rfl, by simp⟩
theorem bitAbs (a : Word) : Statement (.bitAbs a) := ⟨_, _, rfl, rfl, by simp⟩
theorem andAbs (a : Word) : Statement (.andAbs a) := ⟨_, _, rfl, rfl, by simp⟩
theorem rolAbs (a : Word) : Statement (.rolAbs a) := ⟨_, _, rfl, rfl, by simp⟩
theorem rlaAbs (a : Word) : Statement (.rlaAbs a) := ⟨_, _, rfl, rfl, by simp⟩
theorem bmi (b : Byte) : Statement (.bmi b) := ⟨_, _, rfl, rfl, by simp⟩
theorem andIndy (b : Byte) : Statement (.andIndy b) := ⟨_, _, rfl, rfl, by simp⟩
theorem jam32 : Statement (.jam32) := ⟨_, _, rfl, rfl, by simp⟩
theorem rlaIndy (b : Byte) : Statement (.rlaIndy b) := ⟨_, _, rfl, rfl, by simp⟩
theorem nopZpx34 (b : Byte) : Statement (.nopZpx34 b) := ⟨_, _, rfl, rfl, by simp⟩
theorem andZpx (b : Byte) : Statement (.andZpx b) := ⟨_, _, rfl, rfl, by simp⟩
theorem rolZpx (b : Byte) : Statement (.rolZpx b) := ⟨_, _, rfl, rfl, by simp⟩
theorem rlaZpx (b : Byte) : Statement (.rlaZpx b) := ⟨_, _, rfl, rfl, by simp⟩
theorem sec : Statement (.sec) := ⟨_, _, rfl, rfl, by simp⟩
theorem andAbsy (a : Word) : Statement (.andAbsy a) := ⟨_, _, rfl, rfl, by simp⟩
theorem nopImpl3A : Statement (.nopImpl3A) := ⟨_, _, rfl, rfl, by simp⟩
theorem rlaAbsy (a : Word) : Statement (.rlaAbsy a) := ⟨_, _, rfl, rfl, by simp⟩
theorem nopAbsx3C (a : Word) : Statement (.nopAbsx3C a) := ⟨_, _, rfl, rfl, by simp⟩
theorem andAbsx (a : Word) : Statement (.andAbsx a) := ⟨_, _, rfl, rfl, by simp⟩
theorem rolAbsx (a : Word) : Statement (.rolAbsx a) := ⟨_, _, rfl, rfl, by simp⟩
theorem rlaAbsx (a : Word) : Statement (.rlaAbsx a) := ⟨_, _, rfl, rfl, by simp⟩
theorem rti : Statement (.rti) := ⟨_, _, rfl, rfl, by simp⟩
theorem eorIndx (b : Byte) : Statement (.eorIndx b) := ⟨_, _, rfl, rfl, by simp⟩
theorem jam42 : Statement (.jam42) := ⟨_, _, rfl, rfl, by simp⟩
theorem sreIndx (b : Byte) : Statement (.sreIndx b) := ⟨_, _, rfl, rfl, by simp⟩
theorem nopZp44 (b : Byte) : Statement (.nopZp44 b) := ⟨_, _, rfl, rfl, by simp⟩
theorem eorZp (b : Byte) : Statement (.eorZp b) := ⟨_, _, rfl, rfl, by simp⟩
theorem lsrZp (b : Byte) : Statement (.lsrZp b) := ⟨_, _, rfl, rfl, by simp⟩
theorem sreZp (b : Byte) : Statement (.sreZp b) := ⟨_, _, rfl, rfl, by simp⟩
theorem pha : Statement (.pha) := ⟨_, _, rfl, rfl, by simp⟩
theorem eorImm (b : Byte) : Statement (.eorImm b) := ⟨_, _, rfl, rfl, by simp⟩
theorem lsrAcc : Statement (.lsrAcc) := ⟨_, _, rfl, rfl, by simp⟩
theorem alrImm (b : Byte) : Statement (.alrImm b) := ⟨_, _, rfl, rfl, by simp⟩
theorem jmpAbs (a : Word) : Statement (.jmpAbs a) := ⟨_, _, rfl, rfl, by simp⟩
theorem eorAbs (a : Word) : Statement (.eorAbs a) := ⟨_, _, rfl, rfl, by simp⟩
theorem lsrAbs (a : Word) : Statement (.lsrAbs a) := ⟨_, _, rfl, rfl, by simp⟩
theorem sreAbs (a : Word) : Statement (.sreAbs a) := ⟨_, _, rfl, rfl, by simp⟩
theorem bvc (b : Byte) : Statement (.bvc b) := ⟨_, _, rfl, rfl, by simp⟩
theorem eorIndy (b : Byte) : Statement (.eorIndy b) := ⟨_, _, rfl, rfl, by simp⟩
theorem jam52 : Statement (.jam52) := ⟨_, _, rfl, rfl, by simp⟩
theorem sreIndy (b : Byte) : Statement (.sreIndy b) := ⟨_, _, rfl, rfl, by simp⟩
theorem nopZpx54 (b : Byte) : Statement (.nopZpx54 b) := ⟨_, _, rfl, rfl, by simp⟩
theorem eorZpx (b : Byte) : Statement (.eorZpx b) := ⟨_, _, rfl, rfl, by simp⟩
theorem lsrZpx (b : Byte) : Statement (.lsrZpx b) := ⟨_, _, rfl, rfl, by simp⟩
theorem sreZpx (b : Byte) : Statement (.sreZpx b) := ⟨_, _, rfl, rfl, by simp⟩
theorem cli : Statement (.cli) := ⟨_, _, rfl, rfl, by simp⟩
theorem eorAbsy (a : Word) : Statement (.eorAbsy a) := ⟨_, _, rfl, rfl, by simp⟩
theorem nopImpl5A : Statement (.nopImpl5A) := ⟨_, _, rfl, rfl, by simp⟩
theorem sreAbsy (a : Word) : Statement (.sreAbsy a) := ⟨_, _, rfl, rfl, by simp⟩
theorem nopAbsx5C (a : Word) : Statement (.nopAbsx5C a) := ⟨_, _, rfl, rfl, by simp⟩
theorem eorAbsx (a : Word) : Statement (.eorAbsx a) := ⟨_, _, rfl, rfl, by simp⟩
theorem lsrAbsx (a : Word) : Statement (.lsrAbsx a) := ⟨_, _, rfl, rfl, by simp⟩
theorem sreAbsx (a : Word) : Statement (.sreAbsx a) := ⟨_, _, rfl, rfl, by simp⟩
theorem rts : Statement (.rts) := ⟨_, _, rfl, rfl, by simp⟩
theorem adcIndx (b : Byte) : Statement (.adcIndx b) := ⟨_, _, rfl, rfl, by simp⟩
theorem jam62 : Statement (.jam62) := ⟨_, _, rfl, rfl, by simp⟩
theorem rraIndx (b : Byte) : Statement (.rraIndx b) := ⟨_, _, rfl, rfl, by simp⟩
theorem nopZp64 (b : Byte) : Statement (.nopZp64 b) := ⟨_, _, rfl, rfl, by simp⟩
theorem adcZp (b : Byte) : Statement (.adcZp b) := ⟨_, _, rfl, rfl, by simp⟩
theorem rorZp (b : Byte) : Statement (.rorZp b) := ⟨_, _, rfl, rfl, by simp⟩
theorem rraZp (b : Byte) : Statement (.rraZp b) := ⟨_, _, rfl, rfl, by simp⟩
theorem pla : Statement (.pla) := ⟨_, _, rfl, rfl, by simp⟩
theorem adcImm (b : Byte) : Statement (.adcImm b) := ⟨_, _, rfl, rfl, by simp⟩
theorem rorAcc : Statement (.rorAcc) := ⟨_, _, rfl, rfl, by simp⟩
theorem arrImm (b : Byte) : Statement (.arrImm b) := ⟨_, _, rfl, rfl, by simp⟩
theorem jmpInd (a : Word) : Statement (.jmpInd a) := ⟨_, _, rfl, rfl, by simp⟩
theorem adcAbs (a : Word) : Statement (.adcAbs a) := ⟨_, _, rfl, rfl, by simp⟩
theorem rorAbs (a : Word) : Statement (.rorAbs a) := ⟨_, _, rfl, rfl, by simp⟩
theorem rraAbs (a : Word) : Statement (.rraAbs a) := ⟨_, _, rfl, rfl, by simp⟩
theorem bvs (b : Byte) : Statement (.bvs b) := ⟨_, _, rfl, rfl, by simp⟩
theorem adcIndy (b : Byte) : Statement (.adcIndy b) := ⟨_, _, rfl, rfl, by simp⟩
theorem jam72 : Statement (.jam72) := ⟨_, _, rfl, rfl, by simp⟩
theorem rraIndy (b : Byte) : Statement (.rraIndy b) := ⟨_, _, rfl, rfl, by simp⟩
theorem nopZpx74 (b : Byte) : Statement (.nopZpx74 b) := ⟨_, _, rfl, rfl, by simp⟩
theorem adcZpx (b : Byte) : Statement (.adcZpx b) := ⟨_, _, rfl, rfl, by simp⟩
theorem rorZpx (b : Byte) : Statement (.rorZpx b) := ⟨_, _, rfl, rfl, by simp⟩
theorem rraZpx (b : Byte) : Statement (.rraZpx b) := ⟨_, _, rfl, rfl, by simp⟩
theorem sei : Statement (.sei) := ⟨_, _, rfl, rfl, by simp⟩
theorem adcAbsy (a : Word) : Statement (.adcAbsy a) := ⟨_, _, rfl, rfl, by simp⟩
theorem nopImpl7A : Statement (.nopImpl7A) := ⟨_, _, rfl, rfl, by simp⟩
theorem rraAbsy (a : Word) : Statement (.rraAbsy a) := ⟨_, _, rfl, rfl, by simp⟩
theorem nopAbsx7C (a : Word) : Statement (.nopAbsx7C a) := ⟨_, _, rfl, rfl, by simp⟩
theorem adcAbsx (a : Word) : Statement (.adcAbsx a) := ⟨_, _, rfl, rfl, by simp⟩
theorem rorAbsx (a : Word) : Statement (.rorAbsx a) := ⟨_, _, rfl, rfl, by simp⟩
theorem rraAbsx (a : Word) : Statement (.rraAbsx a) := ⟨_, _, rfl, rfl, by simp⟩
theorem nopImm80 (b : Byte) : Statement (.nopImm80 b) := ⟨_, _, rfl, rfl, by simp⟩
theorem staIndx (b : Byte) : Statement (.staIndx b) := ⟨_, _, rfl, rfl, by simp⟩
theorem nopImm82 (b : Byte) : Statement (.nopImm82 b) := ⟨_, _, rfl, rfl, by simp⟩
theorem saxIndx (b : Byte) : Statement (.saxIndx b) := ⟨_, _, rfl, rfl, by simp⟩
theorem styZp (b : Byte) : Statement (.styZp b) := ⟨_, _, rfl, rfl, by simp⟩
theorem staZp (b : Byte) : Statement (.staZp b) := ⟨_, _, rfl, rfl, by simp⟩
theorem stxZp (b : Byte) : Statement (.stxZp b) := ⟨_, _, rfl, rfl, by simp⟩
theorem saxZp (b : Byte) : Statement (.saxZp b) := ⟨_, _, rfl, rfl, by simp⟩
theorem dey : Statement (.dey) := ⟨_, _, rfl, rfl, by simp⟩
theorem nopImm89 (b : Byte) : Statement (.nopImm89 b) := ⟨_, _, rfl, rfl, by simp⟩
theorem txa : Statement (.txa) := ⟨_, _, rfl, rfl, by simp⟩
theorem aneImm (b : Byte) : Statement (.aneImm b) := ⟨_, _, rfl, rfl, by simp⟩
theorem styAbs (a : Word) : Statement (.styAbs a) := ⟨_, _, rfl, rfl, by simp⟩
theorem staAbs (a : Word) : Statement (.staAbs a) := ⟨_, _, rfl, rfl, by simp⟩
theorem stxAbs (a : Word) : Statement (.stxAbs a) := ⟨_, _, rfl, rfl, by simp⟩
theorem saxAbs (a : Word) : Statement (.saxAbs a) := ⟨_, _, rfl, rfl, by simp⟩
theorem bcc (b : Byte) : Statement (.bcc b) := ⟨_, _, rfl, rfl, by simp⟩
theorem staIndy (b : Byte) : Statement (.staIndy b) := ⟨_, _, rfl, rfl, by simp⟩
theorem jam92 : Statement (.jam92) := ⟨_, _, rfl, rfl, by simp⟩
theorem shaIndy (b : Byte) : Statement (.shaIndy b) := ⟨_, _, rfl, rfl, by simp⟩
theorem styZpx (b : Byte) : Statement (.styZpx b) := ⟨_, _, rfl, rfl, by simp⟩
theorem staZpx (b : Byte) : Statement (.staZpx b) := ⟨_, _, rfl, rfl, by simp⟩
theorem stxZpy (b : Byte) : Statement (.stxZpy b) := ⟨_, _, rfl, rfl, by simp⟩
theorem saxZpy (b : Byte) : Statement (.saxZpy b) := ⟨_, _, rfl, rfl, by simp⟩
theorem tya : Statement (.tya) := ⟨_, _, rfl, rfl, by simp⟩
theorem staAbsy (a : Word) : Statement (.staAbsy a) := ⟨_, _, rfl, rfl, by simp⟩
theorem txs : Statement (.txs) := ⟨_, _, rfl, rfl, by simp⟩
theorem tasAbsy (a : Word) : Statement (.tasAbsy a) := ⟨_, _, rfl, rfl, by simp⟩
theorem shyAbsx (a : Word) : Statement (.shyAbsx a) := ⟨_, _, rfl, rfl, by simp⟩
theorem staAbsx (a : Word) : Statement (.staAbsx a) := ⟨_, _, rfl, rfl, by simp⟩
theorem shxAbsy (a : Word) : Statement (.shxAbsy a) := ⟨_, _, rfl, rfl, by simp⟩
theorem shaAbsy (a : Word) : Statement (.shaAbsy a) := ⟨_, _, rfl, rfl, by simp⟩
theorem ldyImm (b : Byte) : Statement (.ldyImm b) := ⟨_, _, rfl, rfl, by simp⟩
theorem ldaIndx (b : Byte) : Statement (.ldaIndx b) := ⟨_, _, rfl, rfl, by simp⟩
theorem ldxImm (b : Byte) : Statement (.ldxImm b) := ⟨_, _, rfl, rfl, by simp⟩
theorem laxIndx (b : Byte) : Statement (.laxIndx b) := ⟨_, _, rfl, rfl, by simp⟩
theorem ldyZp (b : Byte) : Statement (.ldyZp b) := ⟨_, _, rfl, rfl, by simp⟩
theorem ldaZp (b : Byte) : Statement (.ldaZp b) := ⟨_, _, rfl, rfl, by simp⟩
theorem ldxZp (b : Byte) : Statement (.ldxZp b) := ⟨_, _, rfl, rfl, by simp⟩
theorem laxZp (b : Byte) : Statement (.laxZp b) := ⟨_, _, rfl, rfl, by simp⟩
theorem tay : Statement (.tay) := ⟨_, _, rfl, rfl, by simp⟩
theorem ldaImm (b : Byte) : Statement (.ldaImm b) := ⟨_, _, rfl, rfl, by simp⟩
theorem tax : Statement (.tax) := ⟨_, _, rfl, rfl, by simp⟩
theorem lxaImm (b : Byte) : Statement (.lxaImm b) := ⟨_, _, rfl, rfl, by simp⟩
theorem ldyAbs (a : Word) : Statement (.ldyAbs a) := ⟨_, _, rfl, rfl, by simp⟩
theorem ldaAbs (a : Word) : Statement (.ldaAbs a) := ⟨_, _, rfl, rfl, by simp⟩
theorem ldxAbs (a : Word) : Statement (.ldxAbs a) := ⟨_, _, rfl, rfl, by simp⟩
theorem laxAbs (a : Word) : Statement (.laxAbs a) := ⟨_, _, rfl, rfl, by simp⟩
theorem bcs (b : Byte) : Statement (.bcs b) := ⟨_, _, rfl, rfl, by simp⟩
theorem ldaIndy (b : Byte) : Statement (.ldaIndy b) := ⟨_, _, rfl, rfl, by simp⟩
theorem jamB2 : Statement (.jamB2) := ⟨_, _, rfl, rfl, by simp⟩
theorem laxIndy (b : Byte) : Statement (.laxIndy b) := ⟨_, _, rfl, rfl, by simp⟩
theorem ldyZpx (b : Byte) : Statement (.ldyZpx b) := ⟨_, _, rfl, rfl, by simp⟩
theorem ldaZpx (b : Byte) : Statement (.ldaZpx b) := ⟨_, _, rfl, rfl, by simp⟩
theorem ldxZpy (b : Byte) : Statement (.ldxZpy b) := ⟨_, _, rfl, rfl, by simp⟩
theorem laxZpy (b : Byte) : Statement (.laxZpy b) := ⟨_, _, rfl, rfl, by simp⟩
theorem clv : Statement (.clv) := ⟨_, _, rfl, rfl, by simp⟩
theorem ldaAbsy (a : Word) : Statement (.ldaAbsy a) := ⟨_, _, rfl, rfl, by simp⟩
theorem tsx : Statement (.tsx) := ⟨_, _, rfl, rfl, by simp⟩
theorem lasAbsy (a : Word) : Statement (.lasAbsy a) := ⟨_, _, rfl, rfl, by simp⟩
theorem ldyAbsx (a : Word) : Statement (.ldyAbsx a) := ⟨_, _, rfl, rfl, by simp⟩
theorem ldaAbsx (a : Word) : Statement (.ldaAbsx a) := ⟨_, _, rfl, rfl, by simp⟩
theorem ldxAbsy (a : Word) : Statement (.ldxAbsy a) := ⟨_, _, rfl, rfl, by simp⟩
theorem laxAbsy (a : Word) : Statement (.laxAbsy a) := ⟨_, _, rfl, rfl, by simp⟩
theorem cpyImm (b : Byte) : Statement (.cpyImm b) := ⟨_, _, rfl, rfl, by simp⟩
theorem cmpIndx (b : Byte) : Statement (.cmpIndx b) := ⟨_, _, rfl, rfl, by simp⟩
theorem nopImmC2 (b : Byte) : Statement (.nopImmC2 b) := ⟨_, _, rfl, rfl, by simp⟩
theorem dcpIndx (b : Byte) : Statement (.dcpIndx b) := ⟨_, _, rfl, rfl, by simp⟩
theorem cpyZp (b : Byte) : Statement (.cpyZp b) := ⟨_, _, rfl, rfl, by simp⟩
theorem cmpZp (b : Byte) : Statement (.cmpZp b) := ⟨_, _, rfl, rfl, by simp⟩
theorem decZp (b : Byte) : Statement (.decZp b) := ⟨_, _, rfl, rfl, by simp⟩
theorem dcpZp (b : Byte) : Statement (.dcpZp b) := ⟨_, _, rfl, rfl, by simp⟩
theorem iny : Statement (.iny) := ⟨_, _, rfl, rfl, by simp⟩
theorem cmpImm (b : Byte) : Statement (.cmpImm b) := ⟨_, _, rfl, rfl, by simp⟩
theorem dex : Statement (.dex) := ⟨_, _, rfl, rfl, by simp⟩
theorem axsImm (b : Byte) : Statement (.axsImm b) := ⟨_, _, rfl, rfl, by simp⟩
theorem cpyAbs (a : Word) : Statement (.cpyAbs a) := ⟨_, _, rfl, rfl, by simp⟩
theorem cmpAbs (a : Word) : Statement (.cmpAbs a) := ⟨_, _, rfl, rfl, by simp⟩
theorem decAbs (a : Word) : Statement (.decAbs a) := ⟨_, _, rfl, rfl, by simp⟩
theorem dcpAbs (a : Word) : Statement (.dcpAbs a) := ⟨_, _, rfl, rfl, by simp⟩
theorem bne (b : Byte) : Statement (.bne b) := ⟨_, _, rfl, rfl, by simp⟩
theorem cmpIndy (b : Byte) : Statement (.cmpIndy b) := ⟨_, _, rfl, rfl, by simp⟩
theorem jamD2 : Statement (.jamD2) := ⟨_, _, rfl, rfl, by simp⟩
theorem dcpIndy (b : Byte) : Statement (.dcpIndy b) := ⟨_, _, rfl, rfl, by simp⟩
theorem nopZpxD4 (b : Byte) : Statement (.nopZpxD4 b) := ⟨_, _, rfl, rfl, by simp⟩
theorem cmpZpx (b : Byte) : Statement (.cmpZpx b) := ⟨_, _, rfl, rfl, by simp⟩
theorem decZpx (b : Byte) : Statement (.decZpx b) := ⟨_, _, rfl, rfl, by simp⟩
theorem dcpZpx (b : Byte) : Statement (.dcpZpx b) := ⟨_, _, rfl, rfl, by simp⟩
theorem cld : Statement (.cld) := ⟨_, _, rfl, rfl, by simp⟩
theorem cmpAbsy (a : Word) : Statement (.cmpAbsy a) := ⟨_, _, rfl, rfl, by simp⟩
theorem nopImplDA : Statement (.nopImplDA) := ⟨_, _, rfl, rfl, by simp⟩
theorem dcpAbsy (a : Word) : Statement (.dcpAbsy a) := ⟨_, _, rfl, rfl, by simp⟩
theorem nopAbsxDC (a : Word) : Statement (.nopAbsxDC a) := ⟨_, _, rfl, rfl, by simp⟩
theorem cmpAbsx (a : Word) : Statement (.cmpAbsx a) := ⟨_, _, rfl, rfl, by simp⟩
theorem decAbsx (a : Word) : Statement (.decAbsx a) := ⟨_, _, rfl, rfl, by simp⟩
theorem dcpAbsx (a : Word) : Statement (.dcpAbsx a) := ⟨_, _, rfl, rfl, by simp⟩
theorem cpxImm (b : Byte) : Statement (.cpxImm b) := ⟨_, _, rfl, rfl, by simp⟩
theorem sbcIndx (b : Byte) : Statement (.sbcIndx b) := ⟨_, _, rfl, rfl, by simp⟩
theorem nopImmE2 (b : Byte) : Statement (.nopImmE2 b) := ⟨_, _, rfl, rfl, by simp⟩
theorem iscIndx (b : Byte) : Statement (.iscIndx b) := ⟨_, _, rfl, rfl, by simp⟩
theorem cpxZp (b : Byte) : Statement (.cpxZp b) := ⟨_, _, rfl, rfl, by simp⟩
theorem sbcZp (b : Byte) : Statement (.sbcZp b) := ⟨_, _, rfl, rfl, by simp⟩
theorem incZp (b : Byte) : Statement (.incZp b) := ⟨_, _, rfl, rfl, by simp⟩
theorem iscZp (b : Byte) : Statement (.iscZp b) := ⟨_, _, rfl, rfl, by simp⟩
theorem inx : Statement (.inx) := ⟨_, _, rfl, rfl, by simp⟩
theorem sbcImm (b : Byte) : Statement (.sbcImm b) := ⟨_, _, rfl, rfl, by simp⟩
theorem nop : Statement (.nop) := ⟨_, _, rfl, rfl, by simp⟩
theorem sbcImmEB (b : Byte) : Statement (.sbcImmEB b) := ⟨_, _, rfl, rfl, by simp⟩
theorem cpxAbs (a : Word) : Statement (.cpxAbs a) := ⟨_, _, rfl, rfl, by simp⟩
theorem sbcAbs (a : Word) : Statement (.sbcAbs a) := ⟨_, _, rfl, rfl, by simp⟩
theorem incAbs (a : Word) : Statement (.incAbs a) := ⟨_, _, rfl, rfl, by simp⟩
theorem iscAbs (a : Word) : Statement (.iscAbs a) := ⟨_, _, rfl, rfl, by simp⟩
theorem beq (b : Byte) : Statement (.beq b) := ⟨_, _, rfl, rfl, by simp⟩
theorem sbcIndy (b : Byte) : Statement (.sbcIndy b) := ⟨_, _, rfl, rfl, by simp⟩
theorem jamF2 : Statement (.jamF2) := ⟨_, _, rfl, rfl, by simp⟩
theorem iscIndy (b : Byte) : Statement (.iscIndy b) := ⟨_, _, rfl, rfl, by simp⟩
theorem nopZpxF4 (b : Byte) : Statement (.nopZpxF4 b) := ⟨_, _, rfl, rfl, by simp⟩
theorem sbcZpx (b : Byte) : Statement (.sbcZpx b) := ⟨_, _, rfl, rfl, by simp⟩
theorem incZpx (b : Byte) : Statement (.incZpx b) := ⟨_, _, rfl, rfl, by simp⟩
theorem iscZpx (b : Byte) : Statement (.iscZpx b) := ⟨_, _, rfl, rfl, by simp⟩
theorem sed : Statement (.sed) := ⟨_, _, rfl, rfl, by simp⟩
theorem sbcAbsy (a : Word) : Statement (.sbcAbsy a) := ⟨_, _, rfl, rfl, by simp⟩
theorem nopImplFA : Statement (.nopImplFA) := ⟨_, _, rfl, rfl, by simp⟩
theorem iscAbsy (a : Word) : Statement (.iscAbsy a) := ⟨_, _, rfl, rfl, by simp⟩
theorem nopAbsxFC (a : Word) : Statement (.nopAbsxFC a) := ⟨_, _, rfl, rfl, by simp⟩
theorem sbcAbsx (a : Word) : Statement (.sbcAbsx a) := ⟨_, _, rfl, rfl, by simp⟩
theorem incAbsx (a : Word) : Statement (.incAbsx a) := ⟨_, _, rfl, rfl, by simp⟩
theorem iscAbsx (a : Word) : Statement (.iscAbsx a) := ⟨_, _, rfl, rfl, by simp⟩

end Sys2Proof.Laws.EncodedForm
end

