-- ==== Sys2Proof/Laws/Ppu.lean ====
section
/-! SUPPORT. What the work of a dot leaves alone: the registers the CPU writes, the position, the storage (R426). -/

namespace Sys2Proof.Machine

/-- Everything of the PPU that the work of a dot never changes: v, the pipeline, the sprite slots, the status flags and the frame
buffers are what it may change. -/
def keepsRegisters (p q : Ppu) : Prop :=
  q.ctrl = p.ctrl ∧ q.mask = p.mask ∧ q.oamAddr = p.oamAddr ∧ q.t = p.t ∧ q.x = p.x ∧ q.w = p.w ∧ q.readBuf = p.readBuf ∧
    q.scanline = p.scanline ∧ q.dot = p.dot ∧ q.oddFrame = p.oddFrame ∧ q.ntRam = p.ntRam ∧ q.palette = p.palette ∧ q.oam = p.oam

theorem keepsRegisters_refl (p : Ppu) : keepsRegisters p p := ⟨rfl, rfl, rfl, rfl, rfl, rfl, rfl, rfl, rfl, rfl, rfl, rfl, rfl⟩

theorem keepsRegisters_trans {p q r : Ppu} (h : keepsRegisters p q) (k : keepsRegisters q r) : keepsRegisters p r := by
  simp_all [keepsRegisters]

theorem dotFlags_keeps (line d : Nat) (p : Ppu) : keepsRegisters p (dotFlags line d p) := by
  unfold dotFlags
  split
  · exact keepsRegisters_refl p
  · split <;> exact keepsRegisters_refl p

theorem fetchBg_keeps (c : Cart) (m : Mapper) (d : Nat) (p : Ppu) : keepsRegisters p (fetchBg c m d p) := by
  unfold fetchBg
  split <;> exact keepsRegisters_refl p

theorem copyBg_keeps (line d : Nat) (p : Ppu) : keepsRegisters p (copyBg line d p) := by
  unfold copyBg
  simp only
  split <;> split <;> exact keepsRegisters_refl p

theorem stepBg_keeps (c : Cart) (m : Mapper) (line d : Nat) (p : Ppu) : keepsRegisters p (stepBg c m line d p) := by
  have h : keepsRegisters p (if bgActiveDot d = true then fetchBg c m d (shiftBg p) else p) := by
    split
    · exact fetchBg_keeps c m d (shiftBg p)
    · exact keepsRegisters_refl p
  exact keepsRegisters_trans h (copyBg_keeps line d _)

theorem dotSprites_keeps (c : Cart) (m : Mapper) (line d : Nat) (p : Ppu) : keepsRegisters p (dotSprites c m line d p) := by
  unfold dotSprites
  split
  · split <;> exact keepsRegisters_refl p
  · exact keepsRegisters_refl p

theorem drawPixel_keeps (line x : Nat) (p : Ppu) : keepsRegisters p (drawPixel line x p) := by
  unfold drawPixel
  split <;> exact keepsRegisters_refl p

/-- The frame of a dot's work (R426). -/
theorem doDot_keeps (c : Cart) (m : Mapper) (line d : Nat) (p : Ppu) : keepsRegisters p (doDot c m line d p) := by
  unfold doDot
  simp only
  have h1 := dotFlags_keeps line d p
  generalize dotFlags line d p = p1 at h1 ⊢
  have h2 : keepsRegisters p (if (renderingEnabled p1 && renderLine p1) = true then stepBg c m line d p1 else p1) := by
    split
    · exact keepsRegisters_trans h1 (stepBg_keeps c m line d p1)
    · exact h1
  generalize (if (renderingEnabled p1 && renderLine p1) = true then stepBg c m line d p1 else p1) = p2 at h2 ⊢
  have h3 := keepsRegisters_trans h2 (dotSprites_keeps c m line d p2)
  generalize dotSprites c m line d p2 = p3 at h3 ⊢
  have h4 : keepsRegisters p
      (if (decide (line ≤ 239) && decide (1 ≤ d) && decide (d ≤ 256)) = true then drawPixel line (d - 1) p3 else p3) := by
    split
    · exact keepsRegisters_trans h3 (drawPixel_keeps line (d - 1) p3)
    · exact h3
  split
  · exact keepsRegisters_trans h4 (keepsRegisters_refl _)
  · exact h4

end Sys2Proof.Machine
end

