-- ==== Sys2Proof/Laws/Ranges.lean ====
section
/-! SUPPORT. The counters of the PPU and the APU keep their ranges: through a dot, a tick, a register access. -/

namespace Sys2Proof.Machine

/-- The position and the sprite count, the fields `Ppu.Ranges` reads. -/
def samePpuPosition (p q : Ppu) : Prop := q.scanline = p.scanline ∧ q.dot = p.dot ∧ q.sprCount = p.sprCount

theorem ppuRanges_congr {p q : Ppu} (h : p.Ranges) (e : samePpuPosition p q) : q.Ranges :=
  ⟨e.1 ▸ h.scanline, e.2.1 ▸ h.dot, e.2.2 ▸ h.sprCount⟩

theorem evalSprites_length (p : Ppu) (line : Nat) : ∀ (fuel n : Nat) (sel : List Nat), sel.length ≤ 8 →
    (evalSprites p line fuel n sel).1.length ≤ 8
  | 0, _, _, h => h
  | fuel + 1, n, sel, h => by
    unfold evalSprites
    split
    · exact h
    · next hne =>
      refine evalSprites_length p line fuel (n + 1) _ ?_
      split
      · simp at hne ⊢; omega
      · exact h

theorem fetchBg_position (c : Cart) (m : Mapper) (d : Nat) (p : Ppu) : samePpuPosition p (fetchBg c m d p) := by
  unfold fetchBg
  split <;> exact ⟨rfl, rfl, rfl⟩

theorem copyBg_position (line d : Nat) (p : Ppu) : samePpuPosition p (copyBg line d p) := by
  unfold copyBg
  simp only
  split <;> split <;> exact ⟨rfl, rfl, rfl⟩

theorem stepBg_position (c : Cart) (m : Mapper) (line d : Nat) (p : Ppu) : samePpuPosition p (stepBg c m line d p) := by
  unfold stepBg
  have h := copyBg_position line d (if bgActiveDot d = true then fetchBg c m d (shiftBg p) else p)
  have h2 : samePpuPosition p (if bgActiveDot d = true then fetchBg c m d (shiftBg p) else p) := by
    split
    · have := fetchBg_position c m d (shiftBg p)
      exact ⟨this.1, this.2.1, this.2.2⟩
    · exact ⟨rfl, rfl, rfl⟩
  exact ⟨h.1.trans h2.1, h.2.1.trans h2.2.1, h.2.2.trans h2.2.2⟩

/-- The same position, and a legal sprite count. -/
def positionKept (p q : Ppu) : Prop := q.scanline = p.scanline ∧ q.dot = p.dot ∧ (p.sprCount ≤ 8 → q.sprCount ≤ 8)

theorem positionKept_of_same {p q : Ppu} (h : samePpuPosition p q) : positionKept p q :=
  ⟨h.1, h.2.1, fun k => h.2.2 ▸ k⟩

theorem positionKept_trans {p q r : Ppu} (h : positionKept p q) (k : positionKept q r) : positionKept p r :=
  ⟨k.1.trans h.1, k.2.1.trans h.2.1, fun a => k.2.2 (h.2.2 a)⟩

theorem dotSprites_position (c : Cart) (m : Mapper) (line d : Nat) (p : Ppu) : positionKept p (dotSprites c m line d p) := by
  unfold dotSprites
  split
  · split
    · exact ⟨rfl, rfl, fun _ => evalSprites_length p line 64 0 [] (by simp)⟩
    · exact ⟨rfl, rfl, fun _ => Nat.zero_le 8⟩
  · exact ⟨rfl, rfl, id⟩

theorem drawPixel_position (line x : Nat) (p : Ppu) : positionKept p (drawPixel line x p) := by
  unfold drawPixel
  split <;> exact ⟨rfl, rfl, id⟩

/-- A dot's work moves nothing; only its end does (R426). -/
theorem doDot_position (c : Cart) (m : Mapper) (line d : Nat) (p : Ppu) : positionKept p (doDot c m line d p) := by
  unfold doDot
  simp only
  have h1 : positionKept p (dotFlags line d p) := by
    unfold dotFlags
    split
    · exact ⟨rfl, rfl, id⟩
    · split <;> exact ⟨rfl, rfl, id⟩
  generalize dotFlags line d p = p1 at h1 ⊢
  have h2 : positionKept p (if (renderingEnabled p1 && renderLine p1) = true then stepBg c m line d p1 else p1) := by
    split
    · exact positionKept_trans h1 (positionKept_of_same (stepBg_position c m line d p1))
    · exact h1
  generalize (if (renderingEnabled p1 && renderLine p1) = true then stepBg c m line d p1 else p1) = p2 at h2 ⊢
  have h3 := positionKept_trans h2 (dotSprites_position c m line d p2)
  generalize dotSprites c m line d p2 = p3 at h3 ⊢
  have h4 : positionKept p (if (decide (line ≤ 239) && decide (1 ≤ d) && decide (d ≤ 256)) = true then
      drawPixel line (d - 1) p3 else p3) := by
    split
    · exact positionKept_trans h3 (drawPixel_position line _ p3)
    · exact h3
  split
  · exact positionKept_trans h4 ⟨rfl, rfl, fun _ => Nat.zero_le 8⟩
  · exact h4

/-- The end of a dot keeps the position in range (R425). -/
theorem advanceDot_ranges {p : Ppu} (par : Params) (h : p.Ranges) : (advanceDot par p).Ranges := by
  obtain ⟨h1, h2, h3⟩ := h
  unfold advanceDot
  split
  · exact ⟨Nat.zero_le _, Nat.zero_le _, h3⟩
  · split
    · split
      · exact ⟨Nat.zero_le _, Nat.zero_le _, h3⟩
      · next hn =>
        simp at hn
        exact ⟨by simp only; omega, Nat.zero_le _, h3⟩
    · next hn =>
      simp at hn
      exact ⟨h1, by simp only; omega, h3⟩

/-- A dot keeps the PPU's ranges (R425). -/
theorem ppuDot_ranges (par : Params) (c : Cart) (m : Mapper) {p : Ppu} (h : p.Ranges) : (ppuDot par c m p).Ranges := by
  have k := doDot_position c m p.scanline p.dot p
  exact advanceDot_ranges par ⟨by rw [k.1]; exact h.scanline, by rw [k.2.1]; exact h.dot, k.2.2 h.sprCount⟩

/-- The APU fields `Apu.Ranges` reads. -/
def sameApuCounters (a b : Apu) : Prop :=
  b.frame.cycle = a.frame.cycle ∧ b.frame.mode = a.frame.mode ∧ b.noise.lfsr = a.noise.lfsr ∧ b.dmc = a.dmc

theorem apuRanges_congr {a b : Apu} (h : a.Ranges) (e : sameApuCounters a b) : b.Ranges := by
  obtain ⟨e1, e2, e3, e4⟩ := e
  exact ⟨by rw [e1, e2]; exact h.frame, by rw [e3]; exact h.lfsr, by rw [e4]; exact h.bitsLow, by rw [e4]; exact h.bitsHigh,
    by rw [e4]; exact h.remaining, by rw [e4]; exact h.reader, by rw [e4]; exact h.timerLow, by rw [e4]; exact h.timerHigh⟩

theorem quarterFrame_counters (a : Apu) : sameApuCounters a (quarterFrame a) := ⟨rfl, rfl, rfl, rfl⟩

theorem halfFrame_counters (a : Apu) : sameApuCounters a (halfFrame a) := ⟨rfl, rfl, rfl, rfl⟩

/-- The frame sequencer keeps the ranges (R541, R542). -/
theorem frameTick_ranges {a : Apu} (h : a.Ranges) : (frameTick a).Ranges := by
  obtain ⟨hf, h2, h3, h4, h5, h6, h7, h8⟩ := h
  unfold frameTick
  simp only
  split
  · next hm =>
    simp only [hm, if_true] at hf
    unfold frameTick5
    simp only [beq_iff_eq]
    repeat' split
    all_goals refine ⟨?_, h2, h3, h4, h5, h6, h7, h8⟩
    all_goals simp only [quarterFrame, halfFrame, hm, if_true] at *
    all_goals omega
  · next hm =>
    simp only [hm] at hf
    unfold frameTick4
    simp only [beq_iff_eq]
    repeat' split
    all_goals refine ⟨?_, h2, h3, h4, h5, h6, h7, h8⟩
    all_goals simp only [quarterFrame, halfFrame, hm] at *
    all_goals simp_all
    all_goals omega

theorem lfsrNext_ne_zero (mode : Bool) {l : BitVec 15} (h : l ≠ 0) : lfsrNext mode l ≠ 0 := by
  intro he
  have h1 : l >>> 1 = 0 := by
    apply BitVec.eq_of_getLsbD_eq
    intro i _
    have := congrArg (fun v => v.getLsbD i) he
    simp only [lfsrNext, BitVec.getLsbD_or] at this
    have h0 : BitVec.getLsbD (0 : BitVec 15) i = false := by simp
    rw [h0, Bool.or_eq_false_iff] at this
    rw [this.1, h0]
  have h2 : l.toNat / 2 = 0 := by simpa [BitVec.toNat_ushiftRight, Nat.shiftRight_eq_div_pow] using congrArg BitVec.toNat h1
  have h3 : l = 1 := by
    apply BitVec.eq_of_toNat_eq
    have : l.toNat ≠ 0 := fun hz => h (BitVec.eq_of_toNat_eq (by simpa using hz))
    simp
    omega
  subst h3
  cases mode <;> revert he <;> decide

theorem noiseTimer_lfsr {n : Noise} (h : n.lfsr ≠ 0) : (noiseTimer n).lfsr ≠ 0 := by
  unfold noiseTimer
  split
  · exact lfsrNext_ne_zero _ h
  · exact h

/-- The DMC's part of `Apu.Ranges`. -/
structure DmcRanges (c : Dmc) : Prop where
  bitsLow : 1 ≤ c.bitsLeft.toNat
  bitsHigh : c.bitsLeft.toNat ≤ 8
  remaining : c.remaining.toNat ≤ 4081
  reader : c.remaining ≠ 0 → 0x8000 ≤ c.curAddr.toNat
  timerLow : 1 ≤ c.timer.toNat
  timerHigh : c.timer.toNat ≤ 428

theorem dmcRates_range (i : BitVec 4) : 1 ≤ (dmcRates.getD i.toNat 0).toNat ∧ (dmcRates.getD i.toNat 0).toNat ≤ 428 :=
  (by decide : ∀ j : Fin 16, 1 ≤ (dmcRates.getD j.1 0).toNat ∧ (dmcRates.getD j.1 0).toNat ≤ 428) ⟨i.toNat, i.isLt⟩

theorem dmcOutputClock_ranges {c : Dmc} (h : DmcRanges c) : DmcRanges (dmcOutputClock c) := by
  obtain ⟨h1, h2, h3, h4, h5, h6⟩ := h
  unfold dmcOutputClock
  simp only
  split
  · split
    · exact ⟨by simp, by simp, h3, h4, h5, h6⟩
    · exact ⟨by simp, by simp, h3, h4, h5, h6⟩
  · next hb =>
    have e : (c.bitsLeft - 1).toNat = c.bitsLeft.toNat - 1 := by
      rw [BitVec.toNat_sub_of_le (by rw [BitVec.le_def]; simpa using h1)]; simp
    have hne : (c.bitsLeft - 1).toNat ≠ 0 := by
      intro hz; exact hb (by simp only [beq_iff_eq]; exact BitVec.eq_of_toNat_eq (by simpa using hz))
    exact ⟨by simp only; omega, by simp only; omega, h3, h4, h5, h6⟩

theorem dmcTimer_ranges {c : Dmc} (h : DmcRanges c) : DmcRanges (dmcTimer c) := by
  obtain ⟨h1, h2, h3, h4, h5, h6⟩ := h
  unfold dmcTimer
  split
  · have hr := dmcRates_range c.rateIdx
    exact dmcOutputClock_ranges ⟨h1, h2, h3, h4, hr.1, hr.2⟩
  · next hn =>
    have e : (c.timer - 1).toNat = c.timer.toNat - 1 := by
      rw [BitVec.toNat_sub_of_le (by rw [BitVec.le_def]; simpa using h5)]; simp
    exact ⟨h1, h2, h3, h4, by simp only; omega, by simp only; omega⟩

theorem restartSample_ranges {c : Dmc} (h : DmcRanges c) : DmcRanges (restartSample c) := by
  obtain ⟨h1, h2, h3, h4, h5, h6⟩ := h
  have ha := c.addrReg.isLt
  have hl := c.lenReg.isLt
  refine ⟨h1, h2, ?_, ?_, h5, h6⟩
  · simp [restartSample]; omega
  · intro _; simp [restartSample]; omega

theorem dmcFetched_ranges {c : Dmc} (h : DmcRanges c) (hr : c.remaining ≠ 0) (b : Byte) : DmcRanges (dmcFetched b c) := by
  obtain ⟨h1, h2, h3, h4, h5, h6⟩ := h
  have ha := h4 hr
  have hlt := c.curAddr.isLt
  have hn : 1 ≤ c.remaining.toNat := by
    rcases Nat.eq_zero_or_pos c.remaining.toNat with hz | hp
    · exact absurd (BitVec.eq_of_toNat_eq (by simpa using hz)) hr
    · exact hp
  have e : (c.remaining - 1).toNat = c.remaining.toNat - 1 := by
    rw [BitVec.toNat_sub_of_le (by rw [BitVec.le_def]; simpa using hn)]; simp
  have key : DmcRanges
      { c with
        buffer := b
        bufferFull := true
        curAddr := if c.curAddr == 0xFFFF then 0x8000 else c.curAddr + 1
        remaining := c.remaining - 1 } := by
    refine ⟨h1, h2, by simp only; omega, ?_, h5, h6⟩
    intro _
    simp only
    split
    · decide
    · next hf =>
      have hf' : c.curAddr.toNat ≠ 65535 := fun hz => hf (by simp only [beq_iff_eq]; exact BitVec.eq_of_toNat_eq (by simpa using hz))
      simp
      omega
  unfold dmcFetched
  simp only
  split
  · split
    · exact restartSample_ranges key
    · split
      · exact ⟨key.1, key.2, key.3, key.4, key.5, key.6⟩
      · exact key
  · exact key

theorem dmcRanges_of {a : Apu} (h : a.Ranges) : DmcRanges a.dmc :=
  ⟨h.bitsLow, h.bitsHigh, h.remaining, h.reader, h.timerLow, h.timerHigh⟩

theorem apuRanges_of {a : Apu} (hf : a.frame.cycle < if a.frame.mode then 37282 else 29830) (hl : a.noise.lfsr ≠ 0)
    (hd : DmcRanges a.dmc) : a.Ranges :=
  ⟨hf, hl, hd.1, hd.2, hd.3, hd.4, hd.5, hd.6⟩

/-- The APU's clock keeps the ranges (R501). -/
theorem apuClock_ranges {a : Apu} (h : a.Ranges) (k : Nat) : (apuClock k a).Ranges := by
  have h1 := frameTick_ranges h
  unfold apuClock pulseTimers
  simp only
  generalize frameTick a = b at h1
  have hd := dmcTimer_ranges (dmcRanges_of h1)
  split <;> exact apuRanges_of h1.frame (noiseTimer_lfsr h1.lfsr) hd

/-- A bus read keeps the ranges. -/
theorem busRead_ranges {s : State} (h : s.Ranges) (a : Word) : (busRead a s).2.Ranges := by
  obtain ⟨hp, ha⟩ := h
  unfold busRead ppuRegRead readPpuData readPpuStatus readApuStatus readPad mapperRead drawOpenBus advanceV
  simp only
  repeat' split
  all_goals exact ⟨ppuRanges_congr hp ⟨rfl, rfl, rfl⟩, apuRanges_congr ha ⟨rfl, rfl, rfl, rfl⟩⟩

/-- The DMC reader reads only 0x8000–0xFFFF, and keeps the ranges (R557). -/
theorem dmcReader_ranges {s : State} (h : s.Ranges) : (dmcReader s).Ranges := by
  unfold dmcReader
  split
  · next hw =>
    have hr : s.apu.dmc.remaining ≠ 0 := by
      simp only [dmcWants, Bool.and_eq_true, bne_iff_ne] at hw
      exact hw.2
    rw [busRead_prg (h.2.reader hr)]
    exact ⟨h.1, apuRanges_of h.2.frame h.2.lfsr (dmcFetched_ranges (dmcRanges_of h.2) hr _)⟩
  · exact h

/-- The DMC reader's read has no side effect (R557). -/
theorem dmcReader_eq {s : State} (h : s.Ranges) (hw : dmcWants s.apu.dmc = true) :
    dmcReader s =
      { s with apu := { s.apu with dmc := dmcFetched (prgByte s s.apu.dmc.curAddr) s.apu.dmc },
               stallPending := s.stallPending + s.params.dmcStallCycles.val } := by
  have hr : s.apu.dmc.remaining ≠ 0 := by
    simp only [dmcWants, Bool.and_eq_true, bne_iff_ne] at hw
    exact hw.2
  simp only [dmcReader, hw, if_true, busRead_prg (h.2.reader hr)]

/-- An APU tick keeps the ranges. -/
theorem apuTick_ranges {s : State} (h : s.Ranges) (k : Nat) : (apuTick k s).Ranges :=
  dmcReader_ranges ⟨h.1, apuClock_ranges h.2 k⟩

/-- A PPU dot keeps the ranges. -/
theorem ppuTick_ranges {s : State} (h : s.Ranges) : (ppuTick s).Ranges := ⟨ppuDot_ranges _ _ _ h.1, h.2⟩

theorem oamCopy_ranges (page : Byte) : ∀ (n i : Nat) {s : State}, s.Ranges → (oamCopy page n i s).Ranges
  | 0, _, _, h => h
  | n + 1, i, s, h => by
    unfold oamCopy
    have hb := busRead_ranges h (mkWord page (BitVec.ofNat 8 i))
    exact oamCopy_ranges page n (i + 1) ⟨ppuRanges_congr hb.1 ⟨rfl, rfl, rfl⟩, hb.2⟩

theorem enableDmc_ranges {c : Dmc} (h : DmcRanges c) (d : Byte) : DmcRanges (enableDmc d c) := by
  unfold enableDmc
  simp only
  split
  · exact ⟨h.1, h.2, by simp, by simp, h.5, h.6⟩
  · split
    · have k := restartSample_ranges h
      exact ⟨k.1, k.2, k.3, k.4, k.5, k.6⟩
    · exact ⟨h.1, h.2, h.3, h.4, h.5, h.6⟩

theorem oamDma_ranges {s : State} (h : s.Ranges) (page : Byte) : (oamDma page s).Ranges := by
  have h1 := oamCopy_ranges page 256 0 h
  unfold oamDma
  generalize oamCopy page 256 0 s = t at h1 ⊢
  exact h1

theorem writeApuEnable_ranges {s : State} (h : s.Ranges) (d : Byte) : (writeApuEnable d s).Ranges := by
  unfold writeApuEnable
  exact dmcReader_ranges ⟨h.1, apuRanges_of h.2.frame h.2.lfsr (enableDmc_ranges (dmcRanges_of h.2) d)⟩

theorem ppuRegWrite_ranges {s : State} (h : s.Ranges) (r : Nat) (d : Byte) : (ppuRegWrite r d s).Ranges := by
  unfold ppuRegWrite
  split; · exact ⟨ppuRanges_congr h.1 ⟨rfl, rfl, rfl⟩, h.2⟩
  split; · exact ⟨ppuRanges_congr h.1 ⟨rfl, rfl, rfl⟩, h.2⟩
  split; · exact h
  split; · exact ⟨ppuRanges_congr h.1 ⟨rfl, rfl, rfl⟩, h.2⟩
  split; · exact ⟨ppuRanges_congr h.1 ⟨rfl, rfl, rfl⟩, h.2⟩
  split
  · refine ⟨ppuRanges_congr h.1 ?_, h.2⟩
    unfold writePpuScroll
    split <;> exact ⟨rfl, rfl, rfl⟩
  split
  · refine ⟨ppuRanges_congr h.1 ?_, h.2⟩
    unfold writePpuAddr
    split <;> exact ⟨rfl, rfl, rfl⟩
  · unfold writePpuData ppuWrite advanceV
    simp only
    repeat' split
    all_goals exact ⟨ppuRanges_congr h.1 ⟨rfl, rfl, rfl⟩, h.2⟩

theorem apuRegWrite_ranges {a : Apu} (h : a.Ranges) (r : Nat) (d : Byte) : (apuRegWrite r d a).Ranges := by
  unfold apuRegWrite
  split; · exact apuRanges_congr h ⟨rfl, rfl, rfl, rfl⟩
  split; · exact apuRanges_congr h ⟨rfl, rfl, rfl, rfl⟩
  split; · exact apuRanges_congr h ⟨rfl, rfl, rfl, rfl⟩
  split
  · unfold noiseWrite
    repeat' split
    all_goals exact apuRanges_congr h ⟨rfl, rfl, rfl, rfl⟩
  · refine apuRanges_of h.frame h.lfsr ?_
    have hd := dmcRanges_of h
    unfold dmcWrite
    repeat' split
    all_goals exact ⟨hd.1, hd.2, hd.3, hd.4, hd.5, hd.6⟩

theorem writeFrameCounter_ranges {a : Apu} (h : a.Ranges) (d : Byte) : (writeFrameCounter d a).Ranges := by
  have hd := dmcRanges_of h
  unfold writeFrameCounter
  simp only
  split
  · exact apuRanges_of (by simp [quarterFrame, halfFrame]; split <;> omega) h.lfsr hd
  · exact apuRanges_of (by simp only; split <;> omega) h.lfsr hd

/-- A bus write keeps the ranges. -/
theorem busWrite_ranges {s : State} (h : s.Ranges) (a : Word) (v : Byte) : (busWrite a v s).Ranges := by
  unfold busWrite
  split; · exact h
  split; · exact ppuRegWrite_ranges h _ v
  split; · exact ⟨h.1, by generalize a.toNat - 0x4000 = r; exact apuRegWrite_ranges h.2 r v⟩
  split; · exact oamDma_ranges h v
  split; · exact writeApuEnable_ranges h v
  split
  · unfold writeStrobe
    simp only
    split <;> exact h
  split; · exact ⟨h.1, writeFrameCounter_ranges h.2 v⟩
  split; · exact h
  unfold mapperWrite
  split <;> exact h

end Sys2Proof.Machine
end

