-- ==== Sys2Proof/Laws/Run.lean ====
section
/-! SUPPORT. What the end of a run says: it is the first step boundary that meets END_OF_RUN, and no fault was recorded before it. -/

namespace Sys2Proof.Machine

/-- `n` steps lead from `s` to `t` with no fault recorded and with no boundary that ends the run. -/
def runsOn (stop : EndOfRun) : Nat → State → State → Prop
  | 0, s, t => t = s
  | n + 1, s, t => ∃ u, step s = .next u ∧ u.fault = none ∧ stop s u = false ∧ runsOn stop n u t

/-- A run that ended did so at the FIRST boundary that meets END_OF_RUN (R694). -/
theorem runUntil_ended {stop : EndOfRun} :
    ∀ {n : Nat} {s t : State}, runUntil stop n s = .ended t →
      ∃ k u, k < n ∧ runsOn stop k s u ∧ step u = .next t ∧ t.fault = none ∧ stop u t = true
  | 0, _, _, h => by simp [runUntil] at h
  | n + 1, s, t, h => by
    unfold runUntil at h
    split at h
    case h_1 u hu =>
      split at h
      · simp at h
      · rename_i hf
        have hf : u.fault = none := by simpa using hf
        split at h
        · rename_i hs
          cases h
          exact ⟨0, s, by omega, rfl, hu, hf, hs⟩
        · rename_i hs
          obtain ⟨k, w, hk, hr, hw⟩ := runUntil_ended h
          exact ⟨k + 1, w, by omega, ⟨u, hu, hf, by simpa using hs, hr⟩, hw⟩
    all_goals simp at h

/-- With `pc_at(E)` a run ends by a step that `pcAt` describes (R694). -/
theorem runUntil_endAtPc {e : Word} {n : Nat} {s t : State} (h : runUntil (endAtPc e) n s = .ended t) :
    ∃ u, pcAt e u t ∧ t.cpu.pc = e ∧ t.fault = none := by
  obtain ⟨_, u, _, _, hu, hf, hs⟩ := runUntil_ended h
  exact ⟨u, ⟨hu, hs⟩, by simp_all [endAtPc], hf⟩

end Sys2Proof.Machine
end

