-- ==== Sys2Proof/Laws/Storage.lean ====
section
/-! SUPPORT. Every memory operation keeps the storage's canonical form and size: bus accesses, the stack, PPU dots, APU ticks,
and the reset state has it. -/

namespace Sys2Proof.Machine

theorem storageOk_nil {w : Nat} (n : Nat) : storageOk n ([] : Cells w) := ⟨rfl, by simp⟩

theorem storageOk_write {w n a : Nat} {m : Cells w} (h : storageOk n m) (ha : a < n) (v : BitVec w) :
    storageOk n (cellsWrite m a v) :=
  ⟨cellsWrite_wf h.1 a v, fun c hc => (mem_cellsWrite hc).elim (fun e => e ▸ ha) (h.2 c)⟩

/-- The stores of the PPU: all a dot leaves alone, and the frame buffers it may write or swap. -/
def samePpuStores (p q : Ppu) : Prop :=
  q.ntRam = p.ntRam ∧ q.palette = p.palette ∧ q.oam = p.oam ∧ q.fbBack = p.fbBack ∧ q.fbFront = p.fbFront

theorem samePpuStores_trans {p q r : Ppu} (h : samePpuStores p q) (k : samePpuStores q r) : samePpuStores p r := by
  simp_all [samePpuStores]

theorem fetchBg_stores (c : Cart) (m : Mapper) (d : Nat) (p : Ppu) : samePpuStores p (fetchBg c m d p) := by
  unfold fetchBg
  split <;> exact ⟨rfl, rfl, rfl, rfl, rfl⟩

theorem copyBg_stores (line d : Nat) (p : Ppu) : samePpuStores p (copyBg line d p) := by
  unfold copyBg
  simp only
  split <;> split <;> exact ⟨rfl, rfl, rfl, rfl, rfl⟩

theorem stepBg_stores (c : Cart) (m : Mapper) (line d : Nat) (p : Ppu) : samePpuStores p (stepBg c m line d p) := by
  unfold stepBg
  refine samePpuStores_trans ?_ (copyBg_stores line d _)
  split
  · exact samePpuStores_trans ⟨rfl, rfl, rfl, rfl, rfl⟩ (fetchBg_stores c m d (shiftBg p))
  · exact ⟨rfl, rfl, rfl, rfl, rfl⟩

theorem dotSprites_stores (c : Cart) (m : Mapper) (line d : Nat) (p : Ppu) :
    samePpuStores p (dotSprites c m line d p) := by
  unfold dotSprites
  split
  · split <;> exact ⟨rfl, rfl, rfl, rfl, rfl⟩
  · exact ⟨rfl, rfl, rfl, rfl, rfl⟩

theorem advanceDot_stores (par : Params) (p : Ppu) : samePpuStores p (advanceDot par p) := by
  unfold advanceDot
  split
  · exact ⟨rfl, rfl, rfl, rfl, rfl⟩
  · split
    · split <;> exact ⟨rfl, rfl, rfl, rfl, rfl⟩
    · exact ⟨rfl, rfl, rfl, rfl, rfl⟩

/-- What a dot does to the PPU's stores: the memories stay, the frame buffers stay well formed. -/
def dotStores (p q : Ppu) : Prop :=
  q.ntRam = p.ntRam ∧ q.palette = p.palette ∧ q.oam = p.oam ∧
    (storageOk 61440 p.fbBack → storageOk 61440 p.fbFront → storageOk 61440 q.fbBack ∧ storageOk 61440 q.fbFront)

theorem dotStores_of_same {p q : Ppu} (h : samePpuStores p q) : dotStores p q := by
  obtain ⟨h1, h2, h3, h4, h5⟩ := h
  exact ⟨h1, h2, h3, fun a b => by rw [h4, h5]; exact ⟨a, b⟩⟩

theorem dotStores_trans {p q r : Ppu} (h : dotStores p q) (k : dotStores q r) : dotStores p r :=
  ⟨k.1.trans h.1, k.2.1.trans h.2.1, k.2.2.1.trans h.2.2.1, fun a b => k.2.2.2 (h.2.2.2 a b).1 (h.2.2.2 a b).2⟩

theorem dotFlags_stores (line d : Nat) (p : Ppu) : dotStores p (dotFlags line d p) := by
  unfold dotFlags
  split
  · exact ⟨rfl, rfl, rfl, fun a b => ⟨b, a⟩⟩
  · split <;> exact ⟨rfl, rfl, rfl, fun a b => ⟨a, b⟩⟩

theorem drawPixel_stores {line x : Nat} (hl : line ≤ 239) (hx : x < 256) (p : Ppu) : dotStores p (drawPixel line x p) := by
  have ha : 256 * line + x < 61440 := by omega
  unfold drawPixel
  split
  · exact ⟨rfl, rfl, rfl, fun a b => ⟨storageOk_write a ha _, b⟩⟩
  · exact ⟨rfl, rfl, rfl, fun a b => ⟨storageOk_write a ha _, b⟩⟩

/-- A dot keeps the PPU's stores well formed (R425, R426). -/
theorem ppuDot_stores (par : Params) (c : Cart) (m : Mapper) (p : Ppu) : dotStores p (ppuDot par c m p) := by
  unfold ppuDot
  refine dotStores_trans ?_ (dotStores_of_same (advanceDot_stores par _))
  unfold doDot
  simp only
  have h1 := dotFlags_stores p.scanline p.dot p
  generalize dotFlags p.scanline p.dot p = p1 at h1 ⊢
  have h2 : dotStores p (if (renderingEnabled p1 && renderLine p1) = true then stepBg c m p.scanline p.dot p1 else p1) := by
    split
    · exact dotStores_trans h1 (dotStores_of_same (stepBg_stores c m _ _ p1))
    · exact h1
  generalize (if (renderingEnabled p1 && renderLine p1) = true then stepBg c m p.scanline p.dot p1 else p1) = p2 at h2 ⊢
  have h3 := dotStores_trans h2 (dotStores_of_same (dotSprites_stores c m p.scanline p.dot p2))
  generalize dotSprites c m p.scanline p.dot p2 = p3 at h3 ⊢
  have h4 : dotStores p (if (decide (p.scanline ≤ 239) && decide (1 ≤ p.dot) && decide (p.dot ≤ 256)) = true then
      drawPixel p.scanline (p.dot - 1) p3 else p3) := by
    split
    · next h =>
      simp only [Bool.and_eq_true, decide_eq_true_eq] at h
      exact dotStores_trans h3 (drawPixel_stores h.1.1 (by omega) p3)
    · exact h3
  split
  · exact dotStores_trans h4 ⟨rfl, rfl, rfl, fun a b => ⟨a, b⟩⟩
  · exact h4

/-- A PPU dot keeps the form of every storage. -/
theorem ppuTick_storage {s : State} (h : s.StorageForm) : (ppuTick s).StorageForm := by
  obtain ⟨h1, h2, h3, h4⟩ := ppuDot_stores s.params s.cart s.mapper s.ppu
  have hf := h4 h.fbBack h.fbFront
  exact ⟨h.ram, by simpa [ppuTick, h1] using h.ntRam, by simpa [ppuTick, h2] using h.palette,
    by simpa [ppuTick, h2] using h.paletteAliases, by simpa [ppuTick, h3] using h.oam, hf.1, hf.2, h.prgRam, h.chrRam,
    h.prg, h.chr⟩

/-- The stores of the PPU that a register read leaves alone. -/
theorem busRead_stores (a : Word) (s : State) : samePpuStores s.ppu (busRead a s).2.ppu := by
  unfold busRead ppuRegRead readPpuData readPpuStatus readApuStatus readPad mapperRead drawOpenBus advanceV
  simp only
  repeat' split
  all_goals exact ⟨rfl, rfl, rfl, rfl, rfl⟩

/-- The form of every storage carries over to a state with the same storages. -/
theorem storage_congr {s t : State} (h : s.StorageForm) (hr : t.ram = s.ram) (hp : samePpuStores s.ppu t.ppu)
    (hc : t.cart = s.cart) (hm : t.mapper = s.mapper) : t.StorageForm := by
  obtain ⟨h1, h2, h3, h4, h5⟩ := hp
  exact ⟨hr ▸ h.ram, h1 ▸ h.ntRam, h2 ▸ h.palette, h2 ▸ h.paletteAliases, h3 ▸ h.oam, h4 ▸ h.fbBack, h5 ▸ h.fbFront,
    hm ▸ h.prgRam, hm ▸ h.chrRam, hc ▸ h.prg, hc ▸ h.chr⟩

/-- A bus read keeps the form of every storage. -/
theorem busRead_storage {s : State} (h : s.StorageForm) (a : Word) : (busRead a s).2.StorageForm :=
  storage_congr h (by simp) (busRead_stores a s) (by simp) (by simp)

theorem dmcReader_stores (s : State) : samePpuStores s.ppu (dmcReader s).ppu := by
  unfold dmcReader
  split
  · exact busRead_stores _ s
  · exact ⟨rfl, rfl, rfl, rfl, rfl⟩

/-- The DMC reader keeps the form of every storage. -/
theorem dmcReader_storage {s : State} (h : s.StorageForm) : (dmcReader s).StorageForm :=
  storage_congr h (by simp) (dmcReader_stores s) (by simp) (by simp)

/-- An APU tick keeps the form of every storage. -/
theorem apuTick_storage {s : State} (h : s.StorageForm) (k : Nat) : (apuTick k s).StorageForm :=
  dmcReader_storage (storage_congr h rfl ⟨rfl, rfl, rfl, rfl, rfl⟩ rfl rfl)

theorem oamCopy_storage (page : Byte) : ∀ (n i : Nat) {s : State}, s.StorageForm → (oamCopy page n i s).StorageForm
  | 0, _, _, h => h
  | n + 1, i, s, h => by
    unfold oamCopy
    have hb := busRead_storage h (mkWord page (BitVec.ofNat 8 i))
    exact oamCopy_storage page n (i + 1)
      ⟨hb.ram, hb.ntRam, hb.palette, hb.paletteAliases, storageOk_write hb.oam (BitVec.isLt _) _, hb.fbBack, hb.fbFront,
        hb.prgRam, hb.chrRam, hb.prg, hb.chr⟩

theorem nametableCell_lt (mir : Mirroring) (a : Nat) : nametableCell mir a < 4096 := by
  unfold nametableCell nametablePage
  split <;> omega

theorem paletteAlias_lt {p : Nat} (h : p < 32) : paletteAlias p < 32 := by
  unfold paletteAlias; split <;> omega

theorem paletteAlias_idem {p : Nat} (h : p < 32) : paletteAlias (paletteAlias p) = paletteAlias p :=
  (by decide : ∀ q : Fin 32, paletteAlias (paletteAlias q.1) = paletteAlias q.1) ⟨p, h⟩

/-- A PPU-space write keeps the form of every storage. -/
theorem ppuWrite_storage {s : State} (h : s.StorageForm) (a : BitVec 14) (v : Byte) : (ppuWrite a v s).StorageForm := by
  unfold ppuWrite
  simp only
  split
  · next ha =>
    unfold patternWrite
    split
    · exact ⟨h.ram, h.ntRam, h.palette, h.paletteAliases, h.oam, h.fbBack, h.fbFront, h.prgRam, storageOk_write h.chrRam ha v,
        h.prg, h.chr⟩
    · exact h
  · split
    · exact ⟨h.ram, storageOk_write h.ntRam (nametableCell_lt _ _) v, h.palette, h.paletteAliases, h.oam, h.fbBack, h.fbFront,
        h.prgRam, h.chrRam, h.prg, h.chr⟩
    · have hlt : a.toNat % 32 < 32 := Nat.mod_lt _ (by omega)
      refine ⟨h.ram, h.ntRam, storageOk_write h.palette (paletteAlias_lt hlt) _, ?_, h.oam, h.fbBack, h.fbFront, h.prgRam,
        h.chrRam, h.prg, h.chr⟩
      intro c hc
      rcases mem_cellsWrite hc with e | hc
      · rw [e]; exact paletteAlias_idem hlt
      · exact h.paletteAliases c hc

theorem advanceV_stores (par : Params) (p : Ppu) : samePpuStores p (advanceV par p) := by
  unfold advanceV
  split <;> exact ⟨rfl, rfl, rfl, rfl, rfl⟩

/-- A PPU register write keeps the form of every storage. -/
theorem ppuRegWrite_storage {s : State} (h : s.StorageForm) (r : Nat) (d : Byte) : (ppuRegWrite r d s).StorageForm := by
  unfold ppuRegWrite
  split; · exact storage_congr h rfl ⟨rfl, rfl, rfl, rfl, rfl⟩ rfl rfl
  split; · exact storage_congr h rfl ⟨rfl, rfl, rfl, rfl, rfl⟩ rfl rfl
  split; · exact h
  split; · exact storage_congr h rfl ⟨rfl, rfl, rfl, rfl, rfl⟩ rfl rfl
  split
  · exact ⟨h.ram, h.ntRam, h.palette, h.paletteAliases, storageOk_write h.oam (BitVec.isLt _) d, h.fbBack, h.fbFront,
      h.prgRam, h.chrRam, h.prg, h.chr⟩
  split
  · refine storage_congr h rfl ?_ rfl rfl
    unfold writePpuScroll
    split <;> exact ⟨rfl, rfl, rfl, rfl, rfl⟩
  split
  · refine storage_congr h rfl ?_ rfl rfl
    unfold writePpuAddr
    split <;> exact ⟨rfl, rfl, rfl, rfl, rfl⟩
  · exact storage_congr (ppuWrite_storage h _ d) rfl (advanceV_stores _ _) rfl rfl

/-- A bus write keeps the form of every storage. -/
theorem busWrite_storage {s : State} (h : s.StorageForm) (a : Word) (v : Byte) : (busWrite a v s).StorageForm := by
  unfold busWrite
  split
  · exact ⟨storageOk_write h.ram (Nat.mod_lt _ (by omega)) v, h.ntRam, h.palette, h.paletteAliases, h.oam, h.fbBack,
      h.fbFront, h.prgRam, h.chrRam, h.prg, h.chr⟩
  split; · exact ppuRegWrite_storage h _ v
  split; · exact storage_congr h rfl ⟨rfl, rfl, rfl, rfl, rfl⟩ rfl rfl
  split; · exact storage_congr (oamCopy_storage v 256 0 h) rfl ⟨rfl, rfl, rfl, rfl, rfl⟩ rfl rfl
  split; · exact dmcReader_storage (storage_congr h rfl ⟨rfl, rfl, rfl, rfl, rfl⟩ rfl rfl)
  split
  · unfold writeStrobe
    simp only
    split <;> exact storage_congr h rfl ⟨rfl, rfl, rfl, rfl, rfl⟩ rfl rfl
  split; · exact storage_congr h rfl ⟨rfl, rfl, rfl, rfl, rfl⟩ rfl rfl
  split; · exact h
  unfold mapperWrite
  split
  · next hc =>
    exact ⟨h.ram, h.ntRam, h.palette, h.paletteAliases, h.oam, h.fbBack, h.fbFront,
      storageOk_write h.prgRam (by omega) v, h.chrRam, h.prg, h.chr⟩
  · exact h

/-- A push keeps the form of every storage. -/
theorem push_storage {s : State} (h : s.StorageForm) (v : Byte) : (push v s).StorageForm :=
  storage_congr (busWrite_storage h _ v) rfl ⟨rfl, rfl, rfl, rfl, rfl⟩ rfl rfl

theorem reset_storage : State.reset.StorageForm :=
  ⟨storageOk_nil _, storageOk_nil _, storageOk_nil _, by simp [State.reset, Ppu.powerOn], storageOk_nil _, storageOk_nil _,
    storageOk_nil _, storageOk_nil _, storageOk_nil _, storageOk_nil _, storageOk_nil _⟩

end Sys2Proof.Machine
end

