-- ==== Sys2Proof/Tests/Slice0.lean ====
section
/-! SUPPORT. Tests of the model: an ill-formed term for each check, words written out from the opcode map, single steps with the
results of 95_test_vectors.md, and for every statement with hypotheses a state that meets them. -/

namespace Sys2Proof.Tests

/- The many kernel evaluations below run one after another: side by side they ask for more threads than a build may have. -/
set_option Elab.async false

open Sys2Proof.Machine

/-! ## Ill-formed terms -/

/-- RESET_SP_DECREMENT is 0 or 3 (R10). -/
theorem test_wf_resetSp : ({ Params.default with resetSpDecrement := 1 } : Params).wf = false := by decide

/-- CHR_HEADER_UNIT_KIB is 4 or 8 (R10). -/
theorem test_wf_chrUnit : ({ Params.default with chrHeaderUnitKib := 16 } : Params).wf = false := by decide

/-- A cycle table without an entry for every opcode (R185). -/
theorem test_wf_cycles : ({ Params.default with cycleTable := [7, 6] } : Params).wf = false := by decide +kernel

/-- A palette fill longer than 32 cells (R60). -/
theorem test_wf_fills : ({ Params.default with paletteFill := List.replicate 33 0 } : Params).wf = false := by decide +kernel

/-- The default parameters are well formed (R10). -/
theorem test_wf_default : Params.default.wf = true := by decide +kernel

/-- A wrong signature byte (E3). -/
theorem test_wf_magic : imageMagicOk [0x4E, 0x45, 0x53, 0x00, 0x01, 0x01] = false := by decide

/-- The farthest targets of a branch, and one past each (R192). -/
theorem test_wf_branch :
    branchReachable 0x8002 0x8081 = true ∧ branchReachable 0x8002 0x8082 = false ∧
    branchReachable 0x8002 0x7F82 = true ∧ branchReachable 0x8002 0x7F81 = false := by decide

/-- An input that ends before the instruction does is refused by name (R170, R191). -/
theorem test_decode_short :
    decode [] = .error .noOpcode ∧ decode [0xA9] = .error (.operandMissing 0xA9) ∧
    decode [0xAD, 0x34] = .error (.operandMissing 0xAD) := ⟨rfl, rfl, rfl⟩

/-! ## Decoding: every opcode, its word written out from the encoding column of the opcode table -/

theorem test_decode_0 :
    decode [0x00] = .ok (.brk, []) ∧
    decode [0x01, 0x34] = .ok (.oraIndx 0x34, []) ∧
    decode [0x02] = .ok (.jam02, []) ∧
    decode [0x03, 0x34] = .ok (.sloIndx 0x34, []) ∧
    decode [0x04, 0x34] = .ok (.nopZp04 0x34, []) ∧
    decode [0x05, 0x34] = .ok (.oraZp 0x34, []) ∧
    decode [0x06, 0x34] = .ok (.aslZp 0x34, []) ∧
    decode [0x07, 0x34] = .ok (.sloZp 0x34, []) ∧
    decode [0x08] = .ok (.php, []) ∧
    decode [0x09, 0x34] = .ok (.oraImm 0x34, []) ∧
    decode [0x0A] = .ok (.aslAcc, []) ∧
    decode [0x0B, 0x34] = .ok (.ancImm0B 0x34, []) ∧
    decode [0x0C, 0x34, 0x12] = .ok (.nopAbs 0x1234, []) ∧
    decode [0x0D, 0x34, 0x12] = .ok (.oraAbs 0x1234, []) ∧
    decode [0x0E, 0x34, 0x12] = .ok (.aslAbs 0x1234, []) ∧
    decode [0x0F, 0x34, 0x12] = .ok (.sloAbs 0x1234, []) :=
  ⟨rfl, rfl, rfl, rfl, rfl, rfl, rfl, rfl, rfl, rfl, rfl, rfl, rfl, rfl, rfl, rfl⟩

theorem test_decode_1 :
    decode [0x10, 0x34] = .ok (.bpl 0x34, []) ∧
    decode [0x11, 0x34] = .ok (.oraIndy 0x34, []) ∧
    decode [0x12] = .ok (.jam12, []) ∧
    decode [0x13, 0x34] = .ok (.sloIndy 0x34, []) ∧
    decode [0x14, 0x34] = .ok (.nopZpx14 0x34, []) ∧
    decode [0x15, 0x34] = .ok (.oraZpx 0x34, []) ∧
    decode [0x16, 0x34] = .ok (.aslZpx 0x34, []) ∧
    decode [0x17, 0x34] = .ok (.sloZpx 0x34, []) ∧
    decode [0x18] = .ok (.clc, []) ∧
    decode [0x19, 0x34, 0x12] = .ok (.oraAbsy 0x1234, []) ∧
    decode [0x1A] = .ok (.nopImpl1A, []) ∧
    decode [0x1B, 0x34, 0x12] = .ok (.sloAbsy 0x1234, []) ∧
    decode [0x1C, 0x34, 0x12] = .ok (.nopAbsx1C 0x1234, []) ∧
    decode [0x1D, 0x34, 0x12] = .ok (.oraAbsx 0x1234, []) ∧
    decode [0x1E, 0x34, 0x12] = .ok (.aslAbsx 0x1234, []) ∧
    decode [0x1F, 0x34, 0x12] = .ok (.sloAbsx 0x1234, []) :=
  ⟨rfl, rfl, rfl, rfl, rfl, rfl, rfl, rfl, rfl, rfl, rfl, rfl, rfl, rfl, rfl, rfl⟩

theorem test_decode_2 :
    decode [0x20, 0x34, 0x12] = .ok (.jsr 0x1234, []) ∧
    decode [0x21, 0x34] = .ok (.andIndx 0x34, []) ∧
    decode [0x22] = .ok (.jam22, []) ∧
    decode [0x23, 0x34] = .ok (.rlaIndx 0x34, []) ∧
    decode [0x24, 0x34] = .ok (.bitZp 0x34, []) ∧
    decode [0x25, 0x34] = .ok (.andZp 0x34, []) ∧
    decode [0x26, 0x34] = .ok (.rolZp 0x34, []) ∧
    decode [0x27, 0x34] = .ok (.rlaZp 0x34, []) ∧
    decode [0x28] = .ok (.plp, []) ∧
    decode [0x29, 0x34] = .ok (.andImm 0x34, []) ∧
    decode [0x2A] = .ok (.rolAcc, []) ∧
    decode [0x2B, 0x34] = .ok (.ancImm2B 0x34, []) ∧
    decode [0x2C, 0x34, 0x12] = .ok (.bitAbs 0x1234, []) ∧
    decode [0x2D, 0x34, 0x12] = .ok (.andAbs 0x1234, []) ∧
    decode [0x2E, 0x34, 0x12] = .ok (.rolAbs 0x1234, []) ∧
    decode [0x2F, 0x34, 0x12] = .ok (.rlaAbs 0x1234, []) :=
  ⟨rfl, rfl, rfl, rfl, rfl, rfl, rfl, rfl, rfl, rfl, rfl, rfl, rfl, rfl, rfl, rfl⟩

theorem test_decode_3 :
    decode [0x30, 0x34] = .ok (.bmi 0x34, []) ∧
    decode [0x31, 0x34] = .ok (.andIndy 0x34, []) ∧
    decode [0x32] = .ok (.jam32, []) ∧
    decode [0x33, 0x34] = .ok (.rlaIndy 0x34, []) ∧
    decode [0x34, 0x34] = .ok (.nopZpx34 0x34, []) ∧
    decode [0x35, 0x34] = .ok (.andZpx 0x34, []) ∧
    decode [0x36, 0x34] = .ok (.rolZpx 0x34, []) ∧
    decode [0x37, 0x34] = .ok (.rlaZpx 0x34, []) ∧
    decode [0x38] = .ok (.sec, []) ∧
    decode [0x39, 0x34, 0x12] = .ok (.andAbsy 0x1234, []) ∧
    decode [0x3A] = .ok (.nopImpl3A, []) ∧
    decode [0x3B, 0x34, 0x12] = .ok (.rlaAbsy 0x1234, []) ∧
    decode [0x3C, 0x34, 0x12] = .ok (.nopAbsx3C 0x1234, []) ∧
    decode [0x3D, 0x34, 0x12] = .ok (.andAbsx 0x1234, []) ∧
    decode [0x3E, 0x34, 0x12] = .ok (.rolAbsx 0x1234, []) ∧
    decode [0x3F, 0x34, 0x12] = .ok (.rlaAbsx 0x1234, []) :=
  ⟨rfl, rfl, rfl, rfl, rfl, rfl, rfl, rfl, rfl, rfl, rfl, rfl, rfl, rfl, rfl, rfl⟩

theorem test_decode_4 :
    decode [0x40] = .ok (.rti, []) ∧
    decode [0x41, 0x34] = .ok (.eorIndx 0x34, []) ∧
    decode [0x42] = .ok (.jam42, []) ∧
    decode [0x43, 0x34] = .ok (.sreIndx 0x34, []) ∧
    decode [0x44, 0x34] = .ok (.nopZp44 0x34, []) ∧
    decode [0x45, 0x34] = .ok (.eorZp 0x34, []) ∧
    decode [0x46, 0x34] = .ok (.lsrZp 0x34, []) ∧
    decode [0x47, 0x34] = .ok (.sreZp 0x34, []) ∧
    decode [0x48] = .ok (.pha, []) ∧
    decode [0x49, 0x34] = .ok (.eorImm 0x34, []) ∧
    decode [0x4A] = .ok (.lsrAcc, []) ∧
    decode [0x4B, 0x34] = .ok (.alrImm 0x34, []) ∧
    decode [0x4C, 0x34, 0x12] = .ok (.jmpAbs 0x1234, []) ∧
    decode [0x4D, 0x34, 0x12] = .ok (.eorAbs 0x1234, []) ∧
    decode [0x4E, 0x34, 0x12] = .ok (.lsrAbs 0x1234, []) ∧
    decode [0x4F, 0x34, 0x12] = .ok (.sreAbs 0x1234, []) :=
  ⟨rfl, rfl, rfl, rfl, rfl, rfl, rfl, rfl, rfl, rfl, rfl, rfl, rfl, rfl, rfl, rfl⟩

theorem test_decode_5 :
    decode [0x50, 0x34] = .ok (.bvc 0x34, []) ∧
    decode [0x51, 0x34] = .ok (.eorIndy 0x34, []) ∧
    decode [0x52] = .ok (.jam52, []) ∧
    decode [0x53, 0x34] = .ok (.sreIndy 0x34, []) ∧
    decode [0x54, 0x34] = .ok (.nopZpx54 0x34, []) ∧
    decode [0x55, 0x34] = .ok (.eorZpx 0x34, []) ∧
    decode [0x56, 0x34] = .ok (.lsrZpx 0x34, []) ∧
    decode [0x57, 0x34] = .ok (.sreZpx 0x34, []) ∧
    decode [0x58] = .ok (.cli, []) ∧
    decode [0x59, 0x34, 0x12] = .ok (.eorAbsy 0x1234, []) ∧
    decode [0x5A] = .ok (.nopImpl5A, []) ∧
    decode [0x5B, 0x34, 0x12] = .ok (.sreAbsy 0x1234, []) ∧
    decode [0x5C, 0x34, 0x12] = .ok (.nopAbsx5C 0x1234, []) ∧
    decode [0x5D, 0x34, 0x12] = .ok (.eorAbsx 0x1234, []) ∧
    decode [0x5E, 0x34, 0x12] = .ok (.lsrAbsx 0x1234, []) ∧
    decode [0x5F, 0x34, 0x12] = .ok (.sreAbsx 0x1234, []) :=
  ⟨rfl, rfl, rfl, rfl, rfl, rfl, rfl, rfl, rfl, rfl, rfl, rfl, rfl, rfl, rfl, rfl⟩

theorem test_decode_6 :
    decode [0x60] = .ok (.rts, []) ∧
    decode [0x61, 0x34] = .ok (.adcIndx 0x34, []) ∧
    decode [0x62] = .ok (.jam62, []) ∧
    decode [0x63, 0x34] = .ok (.rraIndx 0x34, []) ∧
    decode [0x64, 0x34] = .ok (.nopZp64 0x34, []) ∧
    decode [0x65, 0x34] = .ok (.adcZp 0x34, []) ∧
    decode [0x66, 0x34] = .ok (.rorZp 0x34, []) ∧
    decode [0x67, 0x34] = .ok (.rraZp 0x34, []) ∧
    decode [0x68] = .ok (.pla, []) ∧
    decode [0x69, 0x34] = .ok (.adcImm 0x34, []) ∧
    decode [0x6A] = .ok (.rorAcc, []) ∧
    decode [0x6B, 0x34] = .ok (.arrImm 0x34, []) ∧
    decode [0x6C, 0x34, 0x12] = .ok (.jmpInd 0x1234, []) ∧
    decode [0x6D, 0x34, 0x12] = .ok (.adcAbs 0x1234, []) ∧
    decode [0x6E, 0x34, 0x12] = .ok (.rorAbs 0x1234, []) ∧
    decode [0x6F, 0x34, 0x12] = .ok (.rraAbs 0x1234, []) :=
  ⟨rfl, rfl, rfl, rfl, rfl, rfl, rfl, rfl, rfl, rfl, rfl, rfl, rfl, rfl, rfl, rfl⟩

theorem test_decode_7 :
    decode [0x70, 0x34] = .ok (.bvs 0x34, []) ∧
    decode [0x71, 0x34] = .ok (.adcIndy 0x34, []) ∧
    decode [0x72] = .ok (.jam72, []) ∧
    decode [0x73, 0x34] = .ok (.rraIndy 0x34, []) ∧
    decode [0x74, 0x34] = .ok (.nopZpx74 0x34, []) ∧
    decode [0x75, 0x34] = .ok (.adcZpx 0x34, []) ∧
    decode [0x76, 0x34] = .ok (.rorZpx 0x34, []) ∧
    decode [0x77, 0x34] = .ok (.rraZpx 0x34, []) ∧
    decode [0x78] = .ok (.sei, []) ∧
    decode [0x79, 0x34, 0x12] = .ok (.adcAbsy 0x1234, []) ∧
    decode [0x7A] = .ok (.nopImpl7A, []) ∧
    decode [0x7B, 0x34, 0x12] = .ok (.rraAbsy 0x1234, []) ∧
    decode [0x7C, 0x34, 0x12] = .ok (.nopAbsx7C 0x1234, []) ∧
    decode [0x7D, 0x34, 0x12] = .ok (.adcAbsx 0x1234, []) ∧
    decode [0x7E, 0x34, 0x12] = .ok (.rorAbsx 0x1234, []) ∧
    decode [0x7F, 0x34, 0x12] = .ok (.rraAbsx 0x1234, []) :=
  ⟨rfl, rfl, rfl, rfl, rfl, rfl, rfl, rfl, rfl, rfl, rfl, rfl, rfl, rfl, rfl, rfl⟩

theorem test_decode_8 :
    decode [0x80, 0x34] = .ok (.nopImm80 0x34, []) ∧
    decode [0x81, 0x34] = .ok (.staIndx 0x34, []) ∧
    decode [0x82, 0x34] = .ok (.nopImm82 0x34, []) ∧
    decode [0x83, 0x34] = .ok (.saxIndx 0x34, []) ∧
    decode [0x84, 0x34] = .ok (.styZp 0x34, []) ∧
    decode [0x85, 0x34] = .ok (.staZp 0x34, []) ∧
    decode [0x86, 0x34] = .ok (.stxZp 0x34, []) ∧
    decode [0x87, 0x34] = .ok (.saxZp 0x34, []) ∧
    decode [0x88] = .ok (.dey, []) ∧
    decode [0x89, 0x34] = .ok (.nopImm89 0x34, []) ∧
    decode [0x8A] = .ok (.txa, []) ∧
    decode [0x8B, 0x34] = .ok (.aneImm 0x34, []) ∧
    decode [0x8C, 0x34, 0x12] = .ok (.styAbs 0x1234, []) ∧
    decode [0x8D, 0x34, 0x12] = .ok (.staAbs 0x1234, []) ∧
    decode [0x8E, 0x34, 0x12] = .ok (.stxAbs 0x1234, []) ∧
    decode [0x8F, 0x34, 0x12] = .ok (.saxAbs 0x1234, []) :=
  ⟨rfl, rfl, rfl, rfl, rfl, rfl, rfl, rfl, rfl, rfl, rfl, rfl, rfl, rfl, rfl, rfl⟩

theorem test_decode_9 :
    decode [0x90, 0x34] = .ok (.bcc 0x34, []) ∧
    decode [0x91, 0x34] = .ok (.staIndy 0x34, []) ∧
    decode [0x92] = .ok (.jam92, []) ∧
    decode [0x93, 0x34] = .ok (.shaIndy 0x34, []) ∧
    decode [0x94, 0x34] = .ok (.styZpx 0x34, []) ∧
    decode [0x95, 0x34] = .ok (.staZpx 0x34, []) ∧
    decode [0x96, 0x34] = .ok (.stxZpy 0x34, []) ∧
    decode [0x97, 0x34] = .ok (.saxZpy 0x34, []) ∧
    decode [0x98] = .ok (.tya, []) ∧
    decode [0x99, 0x34, 0x12] = .ok (.staAbsy 0x1234, []) ∧
    decode [0x9A] = .ok (.txs, []) ∧
    decode [0x9B, 0x34, 0x12] = .ok (.tasAbsy 0x1234, []) ∧
    decode [0x9C, 0x34, 0x12] = .ok (.shyAbsx 0x1234, []) ∧
    decode [0x9D, 0x34, 0x12] = .ok (.staAbsx 0x1234, []) ∧
    decode [0x9E, 0x34, 0x12] = .ok (.shxAbsy 0x1234, []) ∧
    decode [0x9F, 0x34, 0x12] = .ok (.shaAbsy 0x1234, []) :=
  ⟨rfl, rfl, rfl, rfl, rfl, rfl, rfl, rfl, rfl, rfl, rfl, rfl, rfl, rfl, rfl, rfl⟩

theorem test_decode_A :
    decode [0xA0, 0x34] = .ok (.ldyImm 0x34, []) ∧
    decode [0xA1, 0x34] = .ok (.ldaIndx 0x34, []) ∧
    decode [0xA2, 0x34] = .ok (.ldxImm 0x34, []) ∧
    decode [0xA3, 0x34] = .ok (.laxIndx 0x34, []) ∧
    decode [0xA4, 0x34] = .ok (.ldyZp 0x34, []) ∧
    decode [0xA5, 0x34] = .ok (.ldaZp 0x34, []) ∧
    decode [0xA6, 0x34] = .ok (.ldxZp 0x34, []) ∧
    decode [0xA7, 0x34] = .ok (.laxZp 0x34, []) ∧
    decode [0xA8] = .ok (.tay, []) ∧
    decode [0xA9, 0x34] = .ok (.ldaImm 0x34, []) ∧
    decode [0xAA] = .ok (.tax, []) ∧
    decode [0xAB, 0x34] = .ok (.lxaImm 0x34, []) ∧
    decode [0xAC, 0x34, 0x12] = .ok (.ldyAbs 0x1234, []) ∧
    decode [0xAD, 0x34, 0x12] = .ok (.ldaAbs 0x1234, []) ∧
    decode [0xAE, 0x34, 0x12] = .ok (.ldxAbs 0x1234, []) ∧
    decode [0xAF, 0x34, 0x12] = .ok (.laxAbs 0x1234, []) :=
  ⟨rfl, rfl, rfl, rfl, rfl, rfl, rfl, rfl, rfl, rfl, rfl, rfl, rfl, rfl, rfl, rfl⟩

theorem test_decode_B :
    decode [0xB0, 0x34] = .ok (.bcs 0x34, []) ∧
    decode [0xB1, 0x34] = .ok (.ldaIndy 0x34, []) ∧
    decode [0xB2] = .ok (.jamB2, []) ∧
    decode [0xB3, 0x34] = .ok (.laxIndy 0x34, []) ∧
    decode [0xB4, 0x34] = .ok (.ldyZpx 0x34, []) ∧
    decode [0xB5, 0x34] = .ok (.ldaZpx 0x34, []) ∧
    decode [0xB6, 0x34] = .ok (.ldxZpy 0x34, []) ∧
    decode [0xB7, 0x34] = .ok (.laxZpy 0x34, []) ∧
    decode [0xB8] = .ok (.clv, []) ∧
    decode [0xB9, 0x34, 0x12] = .ok (.ldaAbsy 0x1234, []) ∧
    decode [0xBA] = .ok (.tsx, []) ∧
    decode [0xBB, 0x34, 0x12] = .ok (.lasAbsy 0x1234, []) ∧
    decode [0xBC, 0x34, 0x12] = .ok (.ldyAbsx 0x1234, []) ∧
    decode [0xBD, 0x34, 0x12] = .ok (.ldaAbsx 0x1234, []) ∧
    decode [0xBE, 0x34, 0x12] = .ok (.ldxAbsy 0x1234, []) ∧
    decode [0xBF, 0x34, 0x12] = .ok (.laxAbsy 0x1234, []) :=
  ⟨rfl, rfl, rfl, rfl, rfl, rfl, rfl, rfl, rfl, rfl, rfl, rfl, rfl, rfl, rfl, rfl⟩

theorem test_decode_C :
    decode [0xC0, 0x34] = .ok (.cpyImm 0x34, []) ∧
    decode [0xC1, 0x34] = .ok (.cmpIndx 0x34, []) ∧
    decode [0xC2, 0x34] = .ok (.nopImmC2 0x34, []) ∧
    decode [0xC3, 0x34] = .ok (.dcpIndx 0x34, []) ∧
    decode [0xC4, 0x34] = .ok (.cpyZp 0x34, []) ∧
    decode [0xC5, 0x34] = .ok (.cmpZp 0x34, []) ∧
    decode [0xC6, 0x34] = .ok (.decZp 0x34, []) ∧
    decode [0xC7, 0x34] = .ok (.dcpZp 0x34, []) ∧
    decode [0xC8] = .ok (.iny, []) ∧
    decode [0xC9, 0x34] = .ok (.cmpImm 0x34, []) ∧
    decode [0xCA] = .ok (.dex, []) ∧
    decode [0xCB, 0x34] = .ok (.axsImm 0x34, []) ∧
    decode [0xCC, 0x34, 0x12] = .ok (.cpyAbs 0x1234, []) ∧
    decode [0xCD, 0x34, 0x12] = .ok (.cmpAbs 0x1234, []) ∧
    decode [0xCE, 0x34, 0x12] = .ok (.decAbs 0x1234, []) ∧
    decode [0xCF, 0x34, 0x12] = .ok (.dcpAbs 0x1234, []) :=
  ⟨rfl, rfl, rfl, rfl, rfl, rfl, rfl, rfl, rfl, rfl, rfl, rfl, rfl, rfl, rfl, rfl⟩

theorem test_decode_D :
    decode [0xD0, 0x34] = .ok (.bne 0x34, []) ∧
    decode [0xD1, 0x34] = .ok (.cmpIndy 0x34, []) ∧
    decode [0xD2] = .ok (.jamD2, []) ∧
    decode [0xD3, 0x34] = .ok (.dcpIndy 0x34, []) ∧
    decode [0xD4, 0x34] = .ok (.nopZpxD4 0x34, []) ∧
    decode [0xD5, 0x34] = .ok (.cmpZpx 0x34, []) ∧
    decode [0xD6, 0x34] = .ok (.decZpx 0x34, []) ∧
    decode [0xD7, 0x34] = .ok (.dcpZpx 0x34, []) ∧
    decode [0xD8] = .ok (.cld, []) ∧
    decode [0xD9, 0x34, 0x12] = .ok (.cmpAbsy 0x1234, []) ∧
    decode [0xDA] = .ok (.nopImplDA, []) ∧
    decode [0xDB, 0x34, 0x12] = .ok (.dcpAbsy 0x1234, []) ∧
    decode [0xDC, 0x34, 0x12] = .ok (.nopAbsxDC 0x1234, []) ∧
    decode [0xDD, 0x34, 0x12] = .ok (.cmpAbsx 0x1234, []) ∧
    decode [0xDE, 0x34, 0x12] = .ok (.decAbsx 0x1234, []) ∧
    decode [0xDF, 0x34, 0x12] = .ok (.dcpAbsx 0x1234, []) :=
  ⟨rfl, rfl, rfl, rfl, rfl, rfl, rfl, rfl, rfl, rfl, rfl, rfl, rfl, rfl, rfl, rfl⟩

theorem test_decode_E :
    decode [0xE0, 0x34] = .ok (.cpxImm 0x34, []) ∧
    decode [0xE1, 0x34] = .ok (.sbcIndx 0x34, []) ∧
    decode [0xE2, 0x34] = .ok (.nopImmE2 0x34, []) ∧
    decode [0xE3, 0x34] = .ok (.iscIndx 0x34, []) ∧
    decode [0xE4, 0x34] = .ok (.cpxZp 0x34, []) ∧
    decode [0xE5, 0x34] = .ok (.sbcZp 0x34, []) ∧
    decode [0xE6, 0x34] = .ok (.incZp 0x34, []) ∧
    decode [0xE7, 0x34] = .ok (.iscZp 0x34, []) ∧
    decode [0xE8] = .ok (.inx, []) ∧
    decode [0xE9, 0x34] = .ok (.sbcImm 0x34, []) ∧
    decode [0xEA] = .ok (.nop, []) ∧
    decode [0xEB, 0x34] = .ok (.sbcImmEB 0x34, []) ∧
    decode [0xEC, 0x34, 0x12] = .ok (.cpxAbs 0x1234, []) ∧
    decode [0xED, 0x34, 0x12] = .ok (.sbcAbs 0x1234, []) ∧
    decode [0xEE, 0x34, 0x12] = .ok (.incAbs 0x1234, []) ∧
    decode [0xEF, 0x34, 0x12] = .ok (.iscAbs 0x1234, []) :=
  ⟨rfl, rfl, rfl, rfl, rfl, rfl, rfl, rfl, rfl, rfl, rfl, rfl, rfl, rfl, rfl, rfl⟩

theorem test_decode_F :
    decode [0xF0, 0x34] = .ok (.beq 0x34, []) ∧
    decode [0xF1, 0x34] = .ok (.sbcIndy 0x34, []) ∧
    decode [0xF2] = .ok (.jamF2, []) ∧
    decode [0xF3, 0x34] = .ok (.iscIndy 0x34, []) ∧
    decode [0xF4, 0x34] = .ok (.nopZpxF4 0x34, []) ∧
    decode [0xF5, 0x34] = .ok (.sbcZpx 0x34, []) ∧
    decode [0xF6, 0x34] = .ok (.incZpx 0x34, []) ∧
    decode [0xF7, 0x34] = .ok (.iscZpx 0x34, []) ∧
    decode [0xF8] = .ok (.sed, []) ∧
    decode [0xF9, 0x34, 0x12] = .ok (.sbcAbsy 0x1234, []) ∧
    decode [0xFA] = .ok (.nopImplFA, []) ∧
    decode [0xFB, 0x34, 0x12] = .ok (.iscAbsy 0x1234, []) ∧
    decode [0xFC, 0x34, 0x12] = .ok (.nopAbsxFC 0x1234, []) ∧
    decode [0xFD, 0x34, 0x12] = .ok (.sbcAbsx 0x1234, []) ∧
    decode [0xFE, 0x34, 0x12] = .ok (.incAbsx 0x1234, []) ∧
    decode [0xFF, 0x34, 0x12] = .ok (.iscAbsx 0x1234, []) :=
  ⟨rfl, rfl, rfl, rfl, rfl, rfl, rfl, rfl, rfl, rfl, rfl, rfl, rfl, rfl, rfl, rfl⟩

/-- The bit numbering of the table: the opcode is bits 7..0, the operand follows it. -/
theorem test_decodeTableWord :
    decodeTableWord 8 0xA9 = some (.ldaImm 0) ∧ decodeTableWord 24 0x1234AD = some (.ldaAbs 0x1234) ∧
    decodeTableWord 16 0xFCD0 = some (.bne 0xFC) := by decide

/-! ## Single steps -/

/-- S0 of 95_test_vectors.md but for the cartridge, which is the empty one. -/
def s0 : State := { State.reset with cpu := { State.reset.cpu with pc := 0x8000 } }

/-- RAM cells set one after another. -/
def withRam (cells : List (Nat × Byte)) (s : State) : State :=
  { s with ram := cells.foldl (fun m c => cellsWrite m c.1 c.2) s.ram }

/-- The registers set. -/
def regs (a x y sp : Byte) (s : State) : State := { s with cpu := { s.cpu with a := a, x := x, y := y, s := sp } }

/-- The six flags N V D I Z C set. -/
def flags (n v d i z c : Bool) (s : State) : State :=
  { s with cpu := { s.cpu with p := { c := c, z := z, i := i, d := d, v := v, n := n } } }

/-- The address the instruction stands at. -/
def at0 (pc : Word) (s : State) : State := { s with cpu := { s.cpu with pc := pc } }

/-- The listed bytes decode to one instruction, and its execution ends in a next state with the property. -/
def runs (bytes : List Byte) (s : State) (f : State → Bool) : Bool :=
  match decode bytes with
  | .ok (i, []) =>
    match exec i s with
    | .next t => f t
    | _ => false
  | _ => false

/-- The flags as the digits N V D I Z C. -/
def nvdizc (t : State) : List Nat :=
  [bitNat t.cpu.p.n, bitNat t.cpu.p.v, bitNat t.cpu.p.d, bitNat t.cpu.p.i, bitNat t.cpu.p.z, bitNat t.cpu.p.c]

/-- A RAM cell. -/
def cell (t : State) (a : Nat) : Byte := cellsRead t.ram a

/-- The worked examples of R178, R181 and R183, and the same wraps of R179 and R182: EA, and whether a page was crossed. -/
theorem test_operands :
    (let s := withRam [(0x00, 0x12), (0xFF, 0x34)] (regs 0 0x20 0x21 0 s0)
     let t := regs 0 0x01 0xCC 0 s
     (resolve (.zpx 0xF0) s).ea = 0x0010 ∧ (resolve (.zpy 0xF0) s).ea = 0x0011 ∧ (resolve (.indx 0xFE) t).ea = 0x1234 ∧
     ((resolve (.indy 0xFF) t).ea, (resolve (.indy 0xFF) t).crossed) = (0x1300, true) ∧
     ((resolve (.absx 0xFFFF) t).ea, (resolve (.absx 0xFFFF) t).crossed) = (0x0000, true)) := by
  decide +kernel

/-- R201 to R203. Vectors: LS2 (ldaImm); LS3 (ldaZpx_wraps); LS4 (ldaAbsx_crosses); LS6 (ldaIndy_wraps); LS7 (ldaIndy_crosses); LS8 (ldaIndx_wraps); LS14 (ldaAbs_mirror). -/
theorem test_loads :
    runs [0xA9, 0x80] (s0)
      (fun t => t.cpu.a == 0x80 && nvdizc t == [1, 0, 0, 1, 0, 0] && t.cost == 2 && t.cpu.pc == 0x8002) = true ∧
    runs [0xB5, 0x10] (withRam [(0x05, 0x77)] <| regs 0 0xF5 0 0xFD s0)
      (fun t => t.cpu.a == 0x77 && t.cost == 4) = true ∧
    runs [0xBD, 0xF0, 0x01] (withRam [(0x210, 0x99)] <| regs 0 0x20 0 0xFD s0)
      (fun t => t.cpu.a == 0x99 && t.cost == 5 && t.cpu.pc == 0x8003) = true ∧
    runs [0xB1, 0xFF] (withRam [(0x00, 0x02), (0x210, 0x5A)] <| regs 0 0 0x10 0xFD s0)
      (fun t => t.cpu.a == 0x5A && t.cost == 5) = true ∧
    runs [0xB1, 0x40] (withRam [(0x40, 0x01), (0x41, 0x02)] <| regs 0 0 0xFF 0xFD s0)
      (fun t => t.cpu.a == 0 && t.cost == 6 && nvdizc t == [0, 0, 0, 1, 1, 0]) = true ∧
    runs [0xA1, 0xFE] (withRam [(0xFF, 0x34), (0x00, 0x02), (0x234, 0xC3)] <| regs 0 0x01 0 0xFD s0)
      (fun t => t.cpu.a == 0xC3 && t.cost == 6) = true ∧
    runs [0xAD, 0xFF, 0x1F] (withRam [(0x7FF, 0xAB)] <| s0)
      (fun t => t.cpu.a == 0xAB && t.cost == 4) = true := by
  decide +kernel

/-- R204 to R206. Vectors: LS9 (staAbs_mirror); LS10 (staAbs_rom); LS11: no page penalty on a store (staAbsx); LS12 (stxZpy_wraps); LS13 (styAbs). -/
theorem test_stores :
    runs [0x8D, 0x00, 0x08] (regs 0x42 0 0 0xFD s0)
      (fun t => cell t 0 == 0x42 && t.cost == 4 && nvdizc t == [0, 0, 0, 1, 0, 0]) = true ∧
    runs [0x8D, 0x00, 0x80] (regs 0x42 0 0 0xFD s0)
      (fun t => t.cart == s0.cart && t.ram == s0.ram && t.mapper == s0.mapper && t.cpu.pc == 0x8003) = true ∧
    runs [0x9D, 0xFF, 0x02] (regs 0x11 0x01 0 0xFD s0)
      (fun t => cell t 0x300 == 0x11 && t.cost == 5) = true ∧
    runs [0x96, 0xFF] (regs 0 0x9C 0x02 0xFD s0)
      (fun t => cell t 1 == 0x9C && t.cost == 4) = true ∧
    runs [0x8C, 0x34, 0x12] (regs 0 0 0x7E 0xFD s0)
      (fun t => cell t 0x234 == 0x7E && t.cost == 4) = true := by
  decide +kernel

/-- R202, R203. Vectors: LS15 (ldxImm); LS23 (ldxAbsy_crosses); LS16 (ldyImm). -/
theorem test_loadsXY :
    runs [0xA2, 0x00] (regs 0 0x11 0 0xFD s0)
      (fun t => t.cpu.x == 0 && nvdizc t == [0, 0, 0, 1, 1, 0]) = true ∧
    runs [0xBE, 0xFE, 0x00] (withRam [(0x100, 0x66)] <| regs 0 0 0x02 0xFD s0)
      (fun t => t.cpu.x == 0x66 && t.cost == 5) = true ∧
    runs [0xA0, 0xFF] (s0)
      (fun t => t.cpu.y == 0xFF && nvdizc t == [1, 0, 0, 1, 0, 0]) = true := by
  decide +kernel

/-- R207 to R212. Vectors: LS17 (tax); LS18 (tay); LS19 (txa); LS20 (tya); LS21 (tsx); LS22: no flag (txs). -/
theorem test_transfers :
    runs [0xAA] (regs 0 0x11 0 0xFD s0)
      (fun t => t.cpu.x == 0 && nvdizc t == [0, 0, 0, 1, 1, 0] && t.cost == 2) = true ∧
    runs [0xA8] (regs 0x80 0 0 0xFD s0)
      (fun t => t.cpu.y == 0x80 && nvdizc t == [1, 0, 0, 1, 0, 0]) = true ∧
    runs [0x8A] (regs 0 0x01 0 0xFD s0)
      (fun t => t.cpu.a == 1 && nvdizc t == [0, 0, 0, 1, 0, 0]) = true ∧
    runs [0x98] (regs 0x05 0 0 0xFD s0)
      (fun t => t.cpu.a == 0 && nvdizc t == [0, 0, 0, 1, 1, 0]) = true ∧
    runs [0xBA] (regs 0 0 0 0x80 s0)
      (fun t => t.cpu.x == 0x80 && nvdizc t == [1, 0, 0, 1, 0, 0]) = true ∧
    runs [0x9A] (regs 0 0 0 0xFD s0)
      (fun t => t.cpu.s == 0 && nvdizc t == [0, 0, 0, 1, 0, 0]) = true := by
  decide +kernel

/-- R230 to R234. Vectors: ST1 (pha); ST5 (pha_wraps); ST2 (php); ST7 (php_zero); ST6 (pla_wraps); ST4 (plp); ST9 (plp_discards). -/
theorem test_stack :
    runs [0x48] (regs 0x42 0 0 0xFD s0)
      (fun t => cell t 0x1FD == 0x42 && t.cpu.s == 0xFC && t.cost == 3) = true ∧
    runs [0x48] (regs 0x01 0 0 0x00 s0)
      (fun t => cell t 0x100 == 0x01 && t.cpu.s == 0xFF) = true ∧
    runs [0x08] (flags true false false false false true <| s0)
      (fun t => cell t 0x1FD == 0xB1 && t.cpu.s == 0xFC) = true ∧
    runs [0x08] (flags false false false false false false <| s0)
      (fun t => cell t 0x1FD == 0x30) = true ∧
    runs [0x68] (withRam [(0x100, 0x80)] <| regs 0 0 0 0xFF s0)
      (fun t => t.cpu.a == 0x80 && t.cpu.s == 0 && nvdizc t == [1, 0, 0, 1, 0, 0] && t.cost == 4) = true ∧
    runs [0x28] (withRam [(0x1FD, 0xFF)] <| regs 0 0 0 0xFC s0)
      (fun t => nvdizc t == [1, 1, 1, 1, 1, 1] && t.cpu.s == 0xFD) = true ∧
    runs [0x28] (withRam [(0x1FD, 0x30)] <| regs 0 0 0 0xFC s0)
      (fun t => nvdizc t == [0, 0, 0, 0, 0, 0]) = true := by
  decide +kernel

/-- R241, R242. Vectors: AR3 (adc_overflow); AR6 (adc_noBcd); AR7 (sbc); AR10 (sbc_borrow). -/
theorem test_arith :
    runs [0x69, 0x50] (regs 0x50 0 0 0xFD s0)
      (fun t => t.cpu.a == 0xA0 && nvdizc t == [1, 1, 0, 1, 0, 0]) = true ∧
    runs [0x69, 0x01] (flags false false true true false false <| regs 0x09 0 0 0xFD s0)
      (fun t => t.cpu.a == 0x0A && nvdizc t == [0, 0, 1, 1, 0, 0]) = true ∧
    runs [0xE9, 0xF0] (flags false false false true false true <| regs 0x50 0 0 0xFD s0)
      (fun t => t.cpu.a == 0x60 && nvdizc t == [0, 0, 0, 1, 0, 0]) = true ∧
    runs [0xE9, 0x03] (regs 0x05 0 0 0xFD s0)
      (fun t => t.cpu.a == 0x01 && nvdizc t == [0, 0, 0, 1, 0, 1]) = true := by
  decide +kernel

/-- R246 to R249. Vectors: AR12 (cmp); AR13 (cpx); AR14 (cpy); AR15 (bit). -/
theorem test_compare :
    runs [0xC9, 0x20] (regs 0x10 0 0 0xFD s0)
      (fun t => t.cpu.a == 0x10 && nvdizc t == [1, 0, 0, 1, 0, 0]) = true ∧
    runs [0xE0, 0xFF] (s0)
      (fun t => nvdizc t == [0, 0, 0, 1, 0, 0]) = true ∧
    runs [0xC0, 0x01] (regs 0 0 0x80 0xFD s0)
      (fun t => nvdizc t == [0, 0, 0, 1, 0, 1]) = true ∧
    runs [0x24, 0x10] (withRam [(0x10, 0xC0)] <| regs 0x01 0 0 0xFD s0)
      (fun t => t.cpu.a == 1 && nvdizc t == [1, 1, 0, 1, 1, 0] && t.cost == 3) = true := by
  decide +kernel

/-- R243 to R245. Vectors: AR17 (and); AR18 (ora); AR19 (eor). -/
theorem test_logic :
    runs [0x29, 0x0F] (regs 0xF0 0 0 0xFD s0)
      (fun t => t.cpu.a == 0 && nvdizc t == [0, 0, 0, 1, 1, 0]) = true ∧
    runs [0x09, 0x01] (regs 0x80 0 0 0xFD s0)
      (fun t => t.cpu.a == 0x81 && nvdizc t == [1, 0, 0, 1, 0, 0]) = true ∧
    runs [0x49, 0xFF] (regs 0x0F 0 0 0xFD s0)
      (fun t => t.cpu.a == 0xF0 && nvdizc t == [1, 0, 0, 1, 0, 0]) = true := by
  decide +kernel

/-- R250 to R255. Vectors: AR20 (inc); AR22: no page penalty on read-modify-write (incAbsx); AR21 (dec); AR23 (inx); AR24 (iny); AR25 (dex); AR26 (dey); AR27 (adcAbsy_crosses). -/
theorem test_incdec :
    runs [0xE6, 0x10] (withRam [(0x10, 0xFF)] <| s0)
      (fun t => cell t 0x10 == 0 && nvdizc t == [0, 0, 0, 1, 1, 0] && t.cost == 5) = true ∧
    runs [0xFE, 0xFF, 0x02] (withRam [(0x300, 0x7F)] <| regs 0 0x01 0 0xFD s0)
      (fun t => cell t 0x300 == 0x80 && t.cost == 7) = true ∧
    runs [0xC6, 0x10] (s0)
      (fun t => cell t 0x10 == 0xFF && nvdizc t == [1, 0, 0, 1, 0, 0]) = true ∧
    runs [0xE8] (regs 0 0xFF 0 0xFD s0)
      (fun t => t.cpu.x == 0 && nvdizc t == [0, 0, 0, 1, 1, 0]) = true ∧
    runs [0xC8] (regs 0 0 0x7F 0xFD s0)
      (fun t => t.cpu.y == 0x80 && nvdizc t == [1, 0, 0, 1, 0, 0]) = true ∧
    runs [0xCA] (regs 0 0x80 0 0xFD s0)
      (fun t => t.cpu.x == 0x7F && nvdizc t == [0, 0, 0, 1, 0, 0]) = true ∧
    runs [0x88] (s0)
      (fun t => t.cpu.y == 0xFF && nvdizc t == [1, 0, 0, 1, 0, 0]) = true ∧
    runs [0x79, 0xFF, 0x02] (withRam [(0x300, 0x40)] <| regs 0x40 0 0x01 0xFD s0)
      (fun t => t.cpu.a == 0x80 && t.cost == 5 && nvdizc t == [1, 1, 0, 1, 0, 0]) = true := by
  decide +kernel

/-- R290 to R293. Vectors: SH1 (asl_A); SH2 (asl_zp); SH4 (lsr_A); SH5 (rol_A); SH9 (rol_zp); SH7 (ror_A); SH8 (ror_absx). -/
theorem test_shifts :
    runs [0x0A] (regs 0x80 0 0 0xFD s0)
      (fun t => t.cpu.a == 0 && nvdizc t == [0, 0, 0, 1, 1, 1] && t.cost == 2) = true ∧
    runs [0x06, 0x10] (withRam [(0x10, 0x40)] <| s0)
      (fun t => cell t 0x10 == 0x80 && nvdizc t == [1, 0, 0, 1, 0, 0] && t.cost == 5) = true ∧
    runs [0x4A] (regs 0xFF 0 0 0xFD s0)
      (fun t => t.cpu.a == 0x7F && nvdizc t == [0, 0, 0, 1, 0, 1]) = true ∧
    runs [0x2A] (flags false false false true false true <| regs 0x80 0 0 0xFD s0)
      (fun t => t.cpu.a == 1 && nvdizc t == [0, 0, 0, 1, 0, 1]) = true ∧
    runs [0x26, 0x10] (withRam [(0x10, 0x81)] <| s0)
      (fun t => cell t 0x10 == 0x02 && nvdizc t == [0, 0, 0, 1, 0, 1]) = true ∧
    runs [0x6A] (flags false false false true false true <| regs 0x01 0 0 0xFD s0)
      (fun t => t.cpu.a == 0x80 && nvdizc t == [1, 0, 0, 1, 0, 1]) = true ∧
    runs [0x7E, 0xFF, 0x02] (withRam [(0x300, 0x01)] <| regs 0 0x01 0 0xFD s0)
      (fun t => cell t 0x300 == 0 && nvdizc t == [0, 0, 0, 1, 1, 1] && t.cost == 7) = true := by
  decide +kernel

/-- R300 to R308. Vectors: BR1 (beq_taken); BR2 (beq_notTaken); BR3 (bne_samePage); BR4 (bne_back); BR5 (bcc_wraps); BR6 (bmi); not taken with N = 1 (R306, R300) (bpl); BR8 (bvc); BR9 (bcs); BR10 (bvs). -/
theorem test_branches :
    runs [0xF0, 0x1E] (at0 0x80F0 <| flags false false false false true false <| s0)
      (fun t => t.cpu.pc == 0x8110 && t.cost == 4) = true ∧
    runs [0xF0, 0x1E] (at0 0x80F0 <| s0)
      (fun t => t.cpu.pc == 0x80F2 && t.cost == 2) = true ∧
    runs [0xD0, 0x05] (at0 0x80FE <| s0)
      (fun t => t.cpu.pc == 0x8105 && t.cost == 3) = true ∧
    runs [0xD0, 0xFA] (at0 0x80FE <| s0)
      (fun t => t.cpu.pc == 0x80FA && t.cost == 4) = true ∧
    runs [0x90, 0x7F] (at0 0xFFF0 <| s0)
      (fun t => t.cpu.pc == 0x0071 && t.cost == 4) = true ∧
    runs [0x30, 0x00] (flags true false false false false false <| s0)
      (fun t => t.cpu.pc == 0x8002 && t.cost == 3) = true ∧
    runs [0x10, 0x10] (flags true false false false false false <| s0)
      (fun t => t.cpu.pc == 0x8002 && t.cost == 2) = true ∧
    runs [0x50, 0xFE] (s0)
      (fun t => t.cpu.pc == 0x8000 && t.cost == 3) = true ∧
    runs [0xB0, 0x10] (flags false false false false false true <| s0)
      (fun t => t.cpu.pc == 0x8012 && t.cost == 3) = true ∧
    runs [0x70, 0x80] (flags false true false false false false <| s0)
      (fun t => t.cpu.pc == 0x7F82 && t.cost == 4) = true := by
  decide +kernel

/-- R309 to R312. Vectors: JP1 (jmpAbs); JP3 (jmpInd_pageWrap); JP4 (jsr); JP11 (jsr_wraps); JP5 (rts); JP6 (rts_wraps). -/
theorem test_jumps :
    runs [0x4C, 0x00, 0xC0] (s0)
      (fun t => t.cpu.pc == 0xC000 && t.cost == 3) = true ∧
    runs [0x6C, 0xFF, 0x02] (withRam [(0x200, 0x90), (0x300, 0x80)] <| s0)
      (fun t => t.cpu.pc == 0x9000 && t.cost == 5) = true ∧
    runs [0x20, 0x00, 0x90] (s0)
      (fun t => cell t 0x1FD == 0x80 && cell t 0x1FC == 0x02 && t.cpu.s == 0xFB && t.cpu.pc == 0x9000 && t.cost == 6) = true ∧
    runs [0x20, 0x00, 0x90] (regs 0 0 0 0x01 s0)
      (fun t => cell t 0x101 == 0x80 && cell t 0x100 == 0x02 && t.cpu.s == 0xFF) = true ∧
    runs [0x60] (withRam [(0x1FC, 0x02), (0x1FD, 0x80)] <| regs 0 0 0 0xFB s0)
      (fun t => t.cpu.pc == 0x8003 && t.cpu.s == 0xFD && t.cost == 6) = true ∧
    runs [0x60] (withRam [(0x1FC, 0xFF), (0x1FD, 0xFF)] <| regs 0 0 0 0xFB s0)
      (fun t => t.cpu.pc == 0x0000) = true := by
  decide +kernel

/-- R313, R314. Vectors: JP7, with the empty cartridge's vector 0000 (brk); JP8 (brk_masked); JP10 (rti). -/
theorem test_brkRti :
    runs [0x00] (flags false false false false false true <| s0)
      (fun t => cell t 0x1FD == 0x80 && cell t 0x1FC == 0x02 && cell t 0x1FB == 0x31 && t.cpu.s == 0xFA && nvdizc t == [0, 0, 0, 1, 0, 1] && t.cpu.pc == 0 && t.cost == 7) = true ∧
    runs [0x00] (flags false false false true false true <| s0)
      (fun t => cell t 0x1FB == 0x35) = true ∧
    runs [0x40] (withRam [(0x1FB, 0xCF), (0x1FC, 0x34), (0x1FD, 0x12)] <| regs 0 0 0 0xFA s0)
      (fun t => nvdizc t == [1, 1, 1, 1, 1, 1] && t.cpu.pc == 0x1234 && t.cpu.s == 0xFD && t.cost == 6) = true := by
  decide +kernel

/-- R340 to R347. Vectors: FL1 (clc); FL2 (sec); FL3 (cli); FL4 (sei); FL5 (cld); FL6 (sed); FL7 (clv); FL8 (nop). -/
theorem test_flagOps :
    runs [0x18] (flags false false false true false true <| s0)
      (fun t => nvdizc t == [0, 0, 0, 1, 0, 0] && t.cost == 2) = true ∧
    runs [0x38] (s0)
      (fun t => nvdizc t == [0, 0, 0, 1, 0, 1]) = true ∧
    runs [0x58] (s0)
      (fun t => nvdizc t == [0, 0, 0, 0, 0, 0]) = true ∧
    runs [0x78] (flags false false false false false false <| s0)
      (fun t => nvdizc t == [0, 0, 0, 1, 0, 0]) = true ∧
    runs [0xD8] (flags false false true true false false <| s0)
      (fun t => nvdizc t == [0, 0, 0, 1, 0, 0]) = true ∧
    runs [0xF8] (s0)
      (fun t => nvdizc t == [0, 0, 1, 1, 0, 0]) = true ∧
    runs [0xB8] (flags false true false true false false <| s0)
      (fun t => nvdizc t == [0, 0, 0, 1, 0, 0]) = true ∧
    runs [0xEA] (s0)
      (fun t => t == { s0 with cost := 2, cpu := { s0.cpu with pc := 0x8001 } }) = true := by
  decide +kernel

/-- R364 to R371. Vectors: UN1 (slo); UN2 (rla); UN3 (sre); UN4 (rra); UN5 (sax); UN6 (lax); UN7 (dcp); UN8 (isc). -/
theorem test_unofficialRmw :
    runs [0x07, 0x10] (withRam [(0x10, 0x81)] <| regs 0x01 0 0 0xFD s0)
      (fun t => cell t 0x10 == 0x02 && t.cpu.a == 0x03 && nvdizc t == [0, 0, 0, 1, 0, 1] && t.cost == 5) = true ∧
    runs [0x27, 0x10] (withRam [(0x10, 0x40)] <| flags false false false true false true <| regs 0xFF 0 0 0xFD s0)
      (fun t => cell t 0x10 == 0x81 && t.cpu.a == 0x81 && nvdizc t == [1, 0, 0, 1, 0, 0]) = true ∧
    runs [0x47, 0x10] (withRam [(0x10, 0x03)] <| regs 0x80 0 0 0xFD s0)
      (fun t => cell t 0x10 == 0x01 && t.cpu.a == 0x81 && nvdizc t == [1, 0, 0, 1, 0, 1]) = true ∧
    runs [0x67, 0x10] (withRam [(0x10, 0x03)] <| regs 0x10 0 0 0xFD s0)
      (fun t => cell t 0x10 == 0x01 && t.cpu.a == 0x12 && nvdizc t == [0, 0, 0, 1, 0, 0]) = true ∧
    runs [0x87, 0x10] (regs 0xF0 0x3C 0 0xFD s0)
      (fun t => cell t 0x10 == 0x30 && nvdizc t == [0, 0, 0, 1, 0, 0] && t.cost == 3) = true ∧
    runs [0xA7, 0x10] (withRam [(0x10, 0x80)] <| s0)
      (fun t => t.cpu.a == 0x80 && t.cpu.x == 0x80 && nvdizc t == [1, 0, 0, 1, 0, 0]) = true ∧
    runs [0xC7, 0x10] (withRam [(0x10, 0x06)] <| regs 0x05 0 0 0xFD s0)
      (fun t => cell t 0x10 == 0x05 && nvdizc t == [0, 0, 0, 1, 1, 1]) = true ∧
    runs [0xE7, 0x10] (withRam [(0x10, 0x0F)] <| flags false false false true false true <| regs 0x10 0 0 0xFD s0)
      (fun t => cell t 0x10 == 0x10 && t.cpu.a == 0 && nvdizc t == [0, 0, 0, 1, 1, 1]) = true := by
  decide +kernel

/-- R372 to R376. Vectors: UN9 (anc); UN10 (alr); UN12 (arr); UN14 (axs); UN15 (sbcEB). -/
theorem test_unofficialImm :
    runs [0x0B, 0x80] (regs 0xFF 0 0 0xFD s0)
      (fun t => t.cpu.a == 0x80 && nvdizc t == [1, 0, 0, 1, 0, 1]) = true ∧
    runs [0x4B, 0x03] (regs 0xFF 0 0 0xFD s0)
      (fun t => t.cpu.a == 0x01 && nvdizc t == [0, 0, 0, 1, 0, 1]) = true ∧
    runs [0x6B, 0x80] (regs 0xFF 0 0 0xFD s0)
      (fun t => t.cpu.a == 0x40 && nvdizc t == [0, 1, 0, 1, 0, 1]) = true ∧
    runs [0xCB, 0x01] (regs 0 0xFF 0 0xFD s0)
      (fun t => t.cpu.x == 0xFF && nvdizc t == [1, 0, 0, 1, 0, 0]) = true ∧
    runs [0xEB, 0xF0] (flags false false false true false true <| regs 0x50 0 0 0xFD s0)
      (fun t => t.cpu.a == 0x60 && nvdizc t == [0, 0, 0, 1, 0, 0]) = true := by
  decide +kernel

/-- R361, R362. Vectors: UN16 (nopAbsx); UN17 (nopAbs_reads); UN18 (nopImplied). -/
theorem test_unofficialNop :
    runs [0x1C, 0xFF, 0x80] (regs 0 0x01 0 0xFD s0)
      (fun t => t.cpu.a == 0 && t.cost == 5 && t.cpu.pc == 0x8003) = true ∧
    runs [0x0C, 0x02, 0x20] ({ s0 with ppu := { s0.ppu with vblank := true, w := true } })
      (fun t => !t.ppu.vblank && !t.ppu.w && t.cpu.a == 0 && t.cost == 4) = true ∧
    runs [0x1A] (s0)
      (fun t => t.cpu.pc == 0x8001) = true := by
  decide +kernel

/-- R360, R380, R381. Vectors: UN19 (lax_gateOff); UN20 (jam); UN21 (ane). -/
theorem test_faulting :
    runs [0xA7, 0x10] ({ s0 with params := { Params.default with unofficialEnabled := false } })
      (fun t => t.fault == some { pc := 0x8000, opcode := 0xA7 } && t.cpu == s0.cpu && t.ram == s0.ram) = true ∧
    runs [0x02] (s0)
      (fun t => t == { s0 with fault := some { pc := 0x8000, opcode := 0x02 } }) = true ∧
    runs [0x8B, 0x00] (s0)
      (fun t => t == { s0 with fault := some { pc := 0x8000, opcode := 0x8B } }) = true := by
  decide +kernel

/-- R410 to R415. Vectors: PP1: the two sprite flags stay (statusRead); PP3, first write (ppuAddr_high); PP4 (ppuData_alias); PP8, first read (ppuData_buffered); PP13 (oamData_attribute). -/
theorem test_ppuRegisters :
    runs [0xAD, 0x02, 0x20] ({ s0 with ppu := { s0.ppu with vblank := true, spr0Hit := true } })
      (fun t => !t.ppu.vblank && t.ppu.spr0Hit && !t.ppu.w) = true ∧
    runs [0x8D, 0x06, 0x20] (regs 0x7F 0 0 0xFD s0)
      (fun t => t.ppu.t == 0x3F00 && t.ppu.w) = true ∧
    runs [0x8D, 0x07, 0x20] ({ s0 with cpu := { s0.cpu with a := 0x2C }, ppu := { s0.ppu with v := 0x3F10 } })
      (fun t => cellsRead t.ppu.palette 0 == 0x2C && t.ppu.v == 0x3F11) = true ∧
    runs [0xAD, 0x07, 0x20] ({ s0 with ppu := { s0.ppu with v := 0x2108, ntRam := cellsWrite [] 0x108 0x5A } })
      (fun t => t.cpu.a == 0 && t.ppu.readBuf == 0x5A && t.ppu.v == 0x2109) = true ∧
    runs [0xAD, 0x04, 0x20] ({ s0 with ppu := { s0.ppu with oamAddr := 2, oam := cellsWrite [] 2 0xFF } })
      (fun t => t.cpu.a == 0xE3 && t.ppu.oamAddr == 2) = true := by
  decide +kernel

/-- R661, R670, R503, R622. Vectors: CT4: with the strobe at 0 nothing is latched (strobe); DM1: 7 + 4 is odd (oamDma_parity); AP4, pulse 1 (length_load); LD13, the store (prgRam). -/
theorem test_ports :
    runs [0x8D, 0x16, 0x40] (s0)
      (fun t => t.ports == s0.ports) = true ∧
    runs [0x8D, 0x14, 0x40] (regs 0x02 0 0 0xFD s0)
      (fun t => t.dmaCycles == 514 && t.ppu.oamAddr == 0) = true ∧
    runs [0x8D, 0x03, 0x40] ({ s0 with cpu := { s0.cpu with a := 0xF8 }, apu := { s0.apu with pulse1 := { s0.apu.pulse1 with enabled := true } } })
      (fun t => t.apu.pulse1.length == 30) = true ∧
    runs [0x8D, 0x00, 0x60] (regs 0x5A 0 0 0xFD s0)
      (fun t => peek t 0x6000 == some 0x5A) = true := by
  decide +kernel

/-! ## Steps and devices -/

/-- A step's outcome is a next state with the property. -/
def steps (s : State) (f : State → Bool) : Bool :=
  match step s with
  | .next t => f t
  | _ => false

/-- A step stops with the fault. -/
def stopsWith (s : State) (r : Fault) : Bool :=
  match step s with
  | .fault f => f == r
  | _ => false

/-- SC2: one step of NOP from S0. -/
theorem test_step_nop :
    steps ((at0 0x0200 State.reset).withFetchWord 8 0xEA)
      (fun t => t.cpuCycles == 9 && t.ppu.dot == 27 && t.apu.frame.cycle == 9 && t.cpu.pc == 0x0201) = true := by
  decide +kernel

/-- IN3: CLI with the frame flag up; the IRQ is entered in the same step, with 20 pushed (R712, R715). -/
theorem test_step_cli_irq :
    steps
      ((at0 0x0200 { State.reset with apu := { State.reset.apu with
          frame := { State.reset.apu.frame with irqFlag := true } } }).withFetchWord 8 0x58)
      (fun t => cell t 0x1FD == 0x02 && cell t 0x1FC == 0x01 && cell t 0x1FB == 0x20 && t.cpu.s == 0xFA && t.cpu.p.i &&
        t.cpuCycles == 16) = true := by
  decide +kernel

/-- IN2: NOP with I = 1 and the frame flag up; no entry. -/
theorem test_step_masked :
    steps
      ((at0 0x0200 { State.reset with apu := { State.reset.apu with
          frame := { State.reset.apu.frame with irqFlag := true } } }).withFetchWord 8 0xEA)
      (fun t => t.cpu.s == 0xFD && t.apu.frame.irqFlag && t.cpuCycles == 9) = true := by
  decide +kernel

/-- IN1: a pending NMI is entered, its latch cleared, with 24 pushed (I = 1). -/
theorem test_enter_nmi :
    (let t := enterInterrupt .nmi (at0 0x8005 { State.reset with nmiPending := true })
     cell t 0x1FD = 0x80 ∧ cell t 0x1FC = 0x05 ∧ cell t 0x1FB = 0x24 ∧ t.cpu.s = 0xFA ∧ t.nmiPending = false) := by
  decide +kernel

/-- UN20: a JAM opcode's step records the fault and moves no device; the step after it stops by name (R705, R46). -/
theorem test_step_jam :
    steps ((at0 0x0200 State.reset).withFetchWord 8 0x02)
      (fun t => t.fault == some { pc := 0x0200, opcode := 0x02 } && t.cpuCycles == 7 && t.ppu.dot == 21 &&
        stopsWith t (.unimplementedOpcode 0x0200 0x02)) = true := by
  decide +kernel

/-- DM3: OAM DMA wraps from OAMADDR 10. -/
theorem test_oamDma :
    (let s := { withRam [(0x200, 0x77), (0x2FF, 0x88)] State.reset with ppu := { State.reset.ppu with oamAddr := 0x10 } }
     let t := busWrite 0x4014 0x02 s
     cellsRead t.ppu.oam 0x10 = 0x77 ∧ cellsRead t.ppu.oam 0x0F = 0x88 ∧ t.ppu.oamAddr = 0x10) := by
  decide +kernel

/-- RS3: a reset lowers S by the parameter and stores nothing. -/
theorem test_reset_sp :
    (let t := hostReset { regs 0x12 0x34 0 0xF0 State.reset with params := { Params.default with resetSpDecrement := 3 } }
     t.cpu.s = 0xED ∧ t.cpu.a = 0x12 ∧ t.cpu.x = 0x34 ∧ t.ram = [] ∧ t.cpuCycles = 14) := by
  decide +kernel

/-- LD3 to LD6: mirroring and mapper id of a header. -/
theorem test_header :
    imageMirroring [0x4E, 0x45, 0x53, 0x1A, 0x01, 0x01, 0x09] = .fourScreen ∧
    imageMapperId [0x4E, 0x45, 0x53, 0x1A, 0x01, 0x01, 0x10, 0x20] = 0x21 ∧
    imageMapperId [0x4E, 0x45, 0x53, 0x1A, 0x01, 0x01, 0x10, 0x20, 0, 0, 0, 0, 0x44] = 0x01 := by
  decide +kernel

/-- AP7: a write of 80 to 0x4017 clocks a half frame at once (R540). -/
theorem test_frameCounter_write :
    (busWrite 0x4017 0x80 { State.reset with apu := { State.reset.apu with
      pulse1 := { State.reset.apu.pulse1 with length := 254 } } }).apu.pulse1.length = 253 := by
  decide +kernel

/-- incY at row 29 flips the nametable, at row 31 it does not (R437); incX at column 31 (R436). -/
theorem test_scroll_steps :
    incY 0x73A0 = 0x0800 ∧ incY 0x73E0 = 0x0000 ∧ incX 0x001F = 0x0400 := by decide

/-! ## Runs, outputs and snapshots -/

/-- A run ends at its first boundary with PC = E (R694): LDA #$80 at 0x0200 with E = 0x0202. -/
theorem test_run_ends :
    (match runUntil (endAtPc 0x0202) 2 (withRam [(0x200, 0xA9), (0x201, 0x80)] (at0 0x0200 State.reset)) with
     | .ended t => t.cpu.a == 0x80 && t.cpu.pc == 0x0202
     | _ => false) = true := by decide +kernel

/-- A fault ends no run; it refutes the launch (R694, R705): JAM with E at its own address. -/
theorem test_run_fault :
    (match runUntil (endAtPc 0x0200) 2 (withRam [(0x200, 0x02)] (at0 0x0200 State.reset)) with
     | .faulted t => t.fault == some { pc := 0x0200, opcode := 0x02 }
     | _ => false) = true := by decide +kernel

/-- A step that crosses dot (241, 1) offers the display sink one frame, the one written before it; any other offers none (R453). A
2-cycle NOP gives the sound output two levels (R581). -/
theorem test_outputs :
    let s := withRam [(0x200, 0xEA)] (at0 0x0200 State.reset)
    let t : State := { s with ppu := { s.ppu with scanline := 241, dot := 0, fbBack := [(5, 0x016)] } }
    actionFrames .step t = [[(5, 0x016)]] ∧ actionFrames .step s = [] ∧ (actionLevels .step s).length = 2 := by decide +kernel

/-- The sound switch off makes every delivered sample 0 and leaves their number (R582). -/
theorem test_soundSwitch : soundSwitch false [3, 5] = [0, 0] ∧ soundSwitch true [3, 5] = [3, 5] := ⟨rfl, rfl⟩

/-- The loader tables of 95_test_vectors.md: a wrong byte 3 is reported once (R601); an unregistered mapper id is valid and warned of
once (R630). -/
theorem test_loadReport (n : Nat) :
    (loadReport n [0x4E, 0x45, 0x53, 0x00, 0x01, 0x01] Params.default).isValid = false ∧
    (loadReport n [0x4E, 0x45, 0x53, 0x00, 0x01, 0x01] Params.default).errors = [.invalidFormat] ∧
    (loadReport n [0x4E, 0x45, 0x53, 0x1A, 0x01, 0x01, 0x10] Params.default).isValid = true ∧
    (loadReport n [0x4E, 0x45, 0x53, 0x1A, 0x01, 0x01, 0x10] Params.default).programBankCount = 1 ∧
    (loadReport n [0x4E, 0x45, 0x53, 0x1A, 0x01, 0x01, 0x10] Params.default).characterBankCount = 1 ∧
    (loadReport n [0x4E, 0x45, 0x53, 0x1A, 0x01, 0x01, 0x10] Params.default).errors = [.unsupportedMapper] :=
  ⟨rfl, rfl, rfl, rfl, rfl, rfl⟩

/-- A snapshot clears no fault and binds no mapper (R46, R691, R631). -/
theorem test_loadState :
    let snap := (saveState State.reset).1
    loadState snap true (setRunning false { State.reset with fault := some { pc := 0, opcode := 2 } }) = .faulted ∧
    (match loadState snap true (setRunning false { State.reset with mapper := { State.reset.mapper with bound := false } }) with
     | .loaded t => t.mapper.bound
     | _ => true) = false := by decide +kernel

/-- The triangle with an empty length counter holds its last step (R522). -/
theorem test_triangle_holds :
    triangleOut { Triangle.powerOn with seq := 3, length := 0 } = 12 := by decide

/-! ## A state that meets the hypotheses of each statement -/

/-- The ranges hold at reset. -/
theorem reset_ranges : State.reset.Ranges :=
  ⟨⟨by decide, by decide, by decide⟩,
    ⟨by decide, by decide, by decide, by decide, by decide, by decide, by decide, by decide⟩⟩

/-- Every list of forms has an instruction in it (the statements of the instructions' results). -/
theorem witness_forms (b : Byte) (a : Word) :
    (∃ f, f ∈ ldaForms b a) ∧ (∃ f, f ∈ ldxForms b a) ∧ (∃ f, f ∈ ldyForms b a) ∧ (∃ f, f ∈ staForms b a) ∧
    (∃ f, f ∈ stxForms b a) ∧ (∃ f, f ∈ styForms b a) ∧ (∃ f, f ∈ adcForms b a) ∧ (∃ f, f ∈ sbcForms b a) ∧
    (∃ f, f ∈ andForms b a) ∧ (∃ f, f ∈ oraForms b a) ∧ (∃ f, f ∈ eorForms b a) ∧ (∃ f, f ∈ cmpForms b a) ∧
    (∃ f, f ∈ cpxForms b a) ∧ (∃ f, f ∈ cpyForms b a) ∧ (∃ f, f ∈ bitForms b a) ∧ (∃ f, f ∈ incForms b a) ∧
    (∃ f, f ∈ decForms b a) ∧ (∃ f, f ∈ aslForms b a) ∧ (∃ f, f ∈ lsrForms b a) ∧ (∃ f, f ∈ rolForms b a) ∧
    (∃ f, f ∈ rorForms b a) ∧ (∃ f, f ∈ faultingInstrs b a) := by
  refine ⟨⟨_, .head _⟩, ⟨_, .head _⟩, ⟨_, .head _⟩, ⟨_, .head _⟩, ⟨_, .head _⟩, ⟨_, .head _⟩, ⟨_, .head _⟩, ⟨_, .head _⟩,
    ⟨_, .head _⟩, ⟨_, .head _⟩, ⟨_, .head _⟩, ⟨_, .head _⟩, ⟨_, .head _⟩, ⟨_, .head _⟩, ⟨_, .head _⟩, ⟨_, .head _⟩,
    ⟨_, .head _⟩, ⟨_, .head _⟩, ⟨_, .head _⟩, ⟨_, .head _⟩, ⟨_, .head _⟩, ⟨_, .head _⟩⟩

/-- LoadResults: a form of each of its lists whose opcode does not trap, by its class and by the gate. -/
theorem witness_operandForms (b : Byte) (a : Word) :
    (⟨.ldaIndx b, 0xA1, .indx b, 6⟩ : Form) ∈ readForms b a ∧
    (⟨.saxIndx b, 0x83, .indx b, 6⟩ : Form) ∈ storeForms b a ++ rmwForms b a ∧
    classTraps { Params.default with unofficialEnabled := false } (opcodeClass 0xA1) = false ∧
    classTraps Params.default (opcodeClass 0x83) = false :=
  ⟨by simp [readForms, ldaForms], by simp [storeForms, saxForms], rfl, rfl⟩

/-- Gate on (UnofficialNopResults, UnofficialReadModifyWriteResults, SaxLaxResults, UnofficialImmediateResults) with a form of
each list, and gate off (GateOffRaisesUnimplementedOpcode). -/
theorem witness_gate (b : Byte) (a : Word) :
    State.reset.params.unofficialEnabled = true ∧
    (∃ f, f ∈ nopImplied) ∧ (∃ f, f ∈ nopReadForms b a) ∧ (∃ f, f ∈ sloForms b a) ∧ (∃ f, f ∈ rlaForms b a) ∧
    (∃ f, f ∈ sreForms b a) ∧ (∃ f, f ∈ rraForms b a) ∧ (∃ f, f ∈ dcpForms b a) ∧ (∃ f, f ∈ iscForms b a) ∧
    (∃ f, f ∈ saxForms b a) ∧ (∃ f, f ∈ laxForms b a) ∧
    ({ State.reset with params := { Params.default with unofficialEnabled := false } } : State).params.unofficialEnabled =
      false ∧
    (∃ f, f ∈ gatedInstrs b a) := by
  refine ⟨rfl, ⟨_, .head _⟩, ⟨_, .head _⟩, ⟨_, .head _⟩, ⟨_, .head _⟩, ⟨_, .head _⟩, ⟨_, .head _⟩, ⟨_, .head _⟩, ⟨_, .head _⟩,
    ⟨_, .head _⟩, ⟨_, .head _⟩, rfl, ⟨_, List.mem_append_left _ (List.mem_append_left _ (.head _))⟩⟩

/-- DecodeRefusesOnlyShortInput: the two clauses at their boundary, a 3-byte opcode with two bytes and with one after it; and
EncodeInvertsDecode: bytes that decode. -/
theorem witness_decode :
    opcodeLength 0xAD ≤ 1 + [(0x34 : Byte), 0x12].length ∧ 1 + [(0x34 : Byte)].length < opcodeLength 0xAD ∧
    decode [0xAD, 0x34, 0x12, 0xFF] = .ok (.ldaAbs 0x1234, [0xFF]) := ⟨by decide, by decide, rfl⟩

/-- StepRunsDecodedInstruction: LDA #$80 placed at 0x0200. -/
theorem witness_StepRunsDecodedInstruction :
    let s := withRam [(0x200, 0xA9), (0x201, 0x80)] (at0 0x0200 State.reset)
    s.enabled ∧ bytesAt s s.cpu.pc [0xA9, 0x80] ∧ classTraps s.params (opcodeClass 0xA9) = false ∧
      decode [0xA9, 0x80] = .ok (.ldaImm 0x80, []) :=
  ⟨⟨rfl, rfl, rfl⟩, ⟨by decide +kernel, by decide +kernel, trivial⟩, rfl, rfl⟩

/-- TrappingOpcodeRecordsTheFault: a JAM opcode, an unstable one, and a gated one with the gate off. -/
theorem witness_TrappingOpcodeRecordsTheFault :
    let s := withRam [(0x200, 0x02)] (at0 0x0200 State.reset)
    s.enabled ∧ peek s s.cpu.pc = some 0x02 ∧ classTraps s.params (opcodeClass 0x02) = true ∧
      classTraps s.params (opcodeClass 0x8B) = true ∧
      classTraps { Params.default with unofficialEnabled := false } (opcodeClass 0xA7) = true :=
  ⟨⟨rfl, rfl, rfl⟩, by decide +kernel, rfl, rfl, rfl⟩

/-- StuckStatesStopByName: a state of each of the three kinds. -/
theorem witness_StuckStatesStopByName :
    ({ State.reset with fault := some { pc := 0, opcode := 2 } } : State).fault = some { pc := 0, opcode := 2 } ∧
    (let s : State := { State.reset with mapper := { State.reset.mapper with bound := false } }
     s.fault = none ∧ s.mapper.bound = false) ∧
    (let s := setRunning false State.reset
     s.fault = none ∧ s.mapper.bound = true ∧ s.running = false) := ⟨rfl, ⟨rfl, rfl⟩, rfl, rfl, rfl⟩

/-- InstructionEndRunsDevicesThenChecksInterrupts: no fault, with each of the three cases of the interrupt check. -/
theorem witness_InstructionEnd :
    State.reset.fault = none ∧ pendingInterrupt State.reset = none ∧
    pendingInterrupt { State.reset with nmiPending := true } = some .nmi ∧
    pendingInterrupt
      { State.reset with
        cpu := { State.reset.cpu with p := { State.reset.cpu.p with i := false } },
        apu := { State.reset.apu with dmc := { State.reset.apu.dmc with irqFlag := true } } } = some .irq := by
  decide +kernel

theorem steps_next {s : State} (h : steps s (fun t => t.fault.isNone) = true) : ∃ t, step s = .next t ∧ t.fault = none := by
  unfold steps at h
  split at h
  · next t ht => exact ⟨t, ht, Option.isNone_iff_eq_none.1 h⟩
  · cases h

/-- EveryStepTakesTwoCycles and the statements about a step's next state: reset has one, with no fault; its cycle table is the
default; and the invariants hold there. -/
theorem witness_step :
    State.reset.params.cycleTable = Params.cycles ∧
    (∃ t, step State.reset = .next t ∧ t.fault = none) ∧ State.reset.StorageForm ∧ State.reset.Ranges ∧
    State.reset.BaselineSlots :=
  ⟨rfl, steps_next (by decide +kernel), reset_storage, reset_ranges, rfl⟩

/-- The frames: an instruction that ends in a next state, a register and a flag it does not write, an address it does not store
to, a form whose operand lies in RAM, and one at the edge of the device addresses. -/
theorem witness_frames :
    (∃ t, exec .pha State.reset = .next t) ∧ Reg.a ∉ writesReg .pha ∧ FlagName.c ∉ writesFlag .pha ∧
    (∀ e ∈ storesTo .pha State.reset, sameStore e 0x0000 = false) ∧
    (⟨.saxIndx 0, 0x83, .indx 0, 6⟩ : Form) ∈ readForms 0 0 ++ storeForms 0 0 ++ rmwForms 0 0 ∧
    (formEa ⟨.saxIndx 0, 0x83, .indx 0, 6⟩ State.reset).toNat < 0x2000 ∧
    0x4020 ≤ (formEa ⟨.ldaAbs 0x4020, 0xAD, .abs 0x4020, 4⟩ State.reset).toNat ∧
    classTraps State.reset.params (opcodeClass 0x48) = false := by
  refine ⟨⟨_, rfl⟩, by decide, by decide, List.forall_mem_singleton.2 (by decide +kernel), ?_, by decide +kernel, by decide +kernel,
    by decide +kernel⟩
  exact List.mem_append_left _ (List.mem_append_right _ (List.mem_append_right _ (.head _)))

/-- The statements over stored bytes: reset's storage is in canonical form; a stack cell and a cell elsewhere; the last RAM
address; cells at both edges of the stack page. -/
theorem witness_storage :
    Memory.wf State.reset.ram = true ∧ Memory.wf State.reset.ppu.oam = true ∧
    (0x1FFF : Word).toNat < 0x2000 ∧ ((0xFF : Nat) < 0x100 ∨ 0x200 ≤ 0xFF) ∧ ((0x200 : Nat) < 0x100 ∨ 0x200 ≤ 0x200) ∧
    (∀ j ∈ [(0xFD : Byte), 0xFC, 0xFB], sameStore (stackAddr j) 0x01FA = false) ∧
    (∃ m n : Cells 8, Memory.wf m = true ∧ Memory.wf n = true ∧ ∀ a, cellsRead m a = cellsRead n a) :=
  ⟨rfl, rfl, by decide, by decide, by decide,
    List.forall_mem_cons.2 ⟨by decide, List.forall_mem_cons.2 ⟨by decide, List.forall_mem_singleton.2 (by decide)⟩⟩,
    [], [], rfl, rfl, fun _ => rfl⟩

/-- OamDmaCopiesAPage: the edges of the pages it names, the PRG RAM present and absent, and OAM in canonical form. -/
theorem witness_OamDma :
    (0x1F : Byte).toNat < 0x20 ∧ 0x80 ≤ (0x80 : Byte).toNat ∧
    (0x60 ≤ (0x60 : Byte).toNat ∧ State.reset.params.prgRamPresent = true) ∧
    (0x41 ≤ (0x41 : Byte).toNat ∧ (0x5F : Byte).toNat < 0x60) ∧
    (0x41 ≤ (0x7F : Byte).toNat ∧ (0x7F : Byte).toNat < 0x80 ∧
      ({ Params.default with prgRamPresent := false } : Params).prgRamPresent = false) ∧
    Memory.wf State.reset.ppu.oam = true := by decide +kernel

/-- StatusReadClearsVblankAndToggle: its first address and the last mirror. -/
theorem witness_StatusRead :
    (0x2000 ≤ (0x2002 : Word).toNat ∧ (0x2002 : Word).toNat < 0x4000 ∧ (0x2002 : Word).toNat % 8 = 2) ∧
    (0x2000 ≤ (0x3FFA : Word).toNat ∧ (0x3FFA : Word).toNat < 0x4000 ∧ (0x3FFA : Word).toNat % 8 = 2) := by decide

/-- AddressAndScrollWrites, DataPortReadsAndWrites and ControllerReportIsShiftedOut: the last mirror, the toggle at both values, v at
the two sides of 0x3F00, the strobe at both values, and OAMADDR at an attribute byte and at none. -/
theorem witness_ports :
    (1023 : Nat) < 1024 ∧ ppuMirror 1023 7 = 0x3FFF ∧ State.reset.ppu.w = false ∧ (writePpuAddr 0x21 State.reset.ppu).w = true ∧
    ((0x3EFF : BitVec 15).setWidth 14 : BitVec 14).toNat < 0x3F00 ∧
    0x3F00 ≤ ((0x3F00 : BitVec 15).setWidth 14 : BitVec 14).toNat ∧ State.reset.ports.strobe = false ∧
    (writeStrobe 1 State.reset).ports.strobe = true ∧ Memory.wf State.reset.ppu.oam = true ∧
    (0x02 : Byte).extractLsb' 0 2 = 2 ∧ State.reset.ppu.oamAddr.extractLsb' 0 2 ≠ 2 := by decide +kernel

/-- PpuSpaceReadsBackWhatWasWritten: its state, and the edges of each of its three ranges: the same cell and another one, in modes
that differ on it. -/
theorem witness_PpuSpace :
    State.reset.StorageForm ∧
    ((0x1FFF : BitVec 14).toNat < 0x2000 ∧ State.reset.cart.chrBanks = 0 ∧
      ¬(State.reset.cart.chrBanks = 0 ∧ (0x1FFF : BitVec 14) = 0x0000)) ∧
    (0x2000 ≤ (0x2000 : BitVec 14).toNat ∧ (0x3EFF : BitVec 14).toNat < 0x3F00 ∧
      sameNametableCell .horizontal 0x2000 0x3400 ∧ ¬sameNametableCell .horizontal 0x2000 0x2800 ∧
      sameNametableCell .vertical 0x2000 0x2800 ∧ ¬sameNametableCell .vertical 0x2000 0x2400 ∧
      sameNametableCell .fourScreen 0x2EFF 0x3EFF ∧ ¬sameNametableCell .fourScreen 0x2000 0x2C00 ∧
      sameNametableCell .singleA 0x2000 0x2C00 ∧ sameNametableCell .singleB 0x2000 0x2C00 ∧
      ¬sameNametableCell .singleA 0x2000 0x2001) ∧
    (0x3F00 ≤ (0x3F00 : BitVec 14).toNat ∧ samePaletteCell 0x3F00 0x3F10 ∧ samePaletteCell 0x3FFF 0x3FDF ∧
      ¬samePaletteCell 0x3F01 0x3F11) :=
  ⟨reset_storage, by decide, by decide, by decide⟩

/-- VblankStartsAndEnds and FrameWithoutRenderingTakes89342Dots: a PPU at each place, the skipped dot among them, and both
lengths of a frame. -/
theorem witness_dots :
    ({ State.reset.ppu with scanline := 241, dot := 1 } : Ppu).dot = 1 ∧
    ({ State.reset.ppu with scanline := 261, dot := 1 } : Ppu).scanline = 261 ∧
    (let p : Ppu := { State.reset.ppu with scanline := 261, dot := 339, oddFrame := true, mask := 0x08 }
     p.scanline = 261 ∧ p.dot = 339 ∧ p.oddFrame = true ∧ p.mask.getLsbD 3 = true) ∧
    (Ppu.powerOn.mask &&& 0x18 = 0 ∧ Ppu.powerOn.scanline = 0 ∧ Ppu.powerOn.dot = 0) ∧
    State.reset.params.oddSkipRequiresRendering = true ∧
    (({ Params.default with oddSkipRequiresRendering := false } : Params).oddSkipRequiresRendering = false ∧
      ({ Ppu.powerOn with oddFrame := true } : Ppu).oddFrame = true) := by decide

/-- LengthCountersAndStatus: a DMC whose reader waits, by its buffer and by its sample, and one whose reader fetches, at the lowest
address it can hold. -/
theorem witness_Dmc :
    ({ Dmc.powerOn with bufferFull := true } : Dmc).bufferFull = true ∧ Dmc.powerOn.remaining = 0 ∧
    (let c : Dmc := { Dmc.powerOn with remaining := 1, curAddr := 0x8000 }
     c.bufferFull = false ∧ c.remaining ≠ 0 ∧ 0x8000 ≤ c.curAddr.toNat) := by decide

/-- FrameInterruptOncePerSequence: the APU at power-on in both modes, at no clock of its sequence, and at the last one of each. -/
theorem witness_FrameInterrupt :
    Apu.powerOn.frame.mode = false ∧ Apu.powerOn.frame.cycle = 0 ∧ Apu.powerOn.frame.irqFlag = false ∧
    (29830 : Nat) ≤ 29830 ∧ (37282 : Nat) ≤ 37282 ∧ (29829, true) ∈ frameClocks false ∧ (37281, true) ∈ frameClocks true ∧
    (let a : Apu := { Apu.powerOn with frame := { FrameSeq.powerOn with cycle := 29828 } }
     a.frame.mode = false ∧ a.frame.cycle + 1 = 29829) ∧
    (let a : Apu := { Apu.powerOn with frame := { FrameSeq.powerOn with mode := true } }
     a.frame.mode = true ∧ a.frame.cycle = 0 ∧ ∀ e ∈ frameClocks a.frame.mode, a.frame.cycle + 1 ≠ e.1) := by decide

/-- BaselinePrgMapping: the last byte of a bank, cartridges of 0, 1 and 2 banks in the baseline slots, PRG RAM present and absent,
and the edges of the two lower ranges. -/
theorem witness_BaselinePrgMapping :
    State.reset.BaselineSlots ∧ (16383 : Nat) < 16384 ∧ State.reset.cart.prgBanks = 0 ∧
    ({ State.reset with cart := { State.reset.cart with prgBanks := 1 } } : State).BaselineSlots ∧
    ({ State.reset with
      cart := { State.reset.cart with prgBanks := 2 }, mapper := { State.reset.mapper with prgSlot1 := 1 } } : State).BaselineSlots ∧
    State.reset.params.prgRamPresent = true ∧ ({ Params.default with prgRamPresent := false } : Params).prgRamPresent = false ∧
    (0x6000 ≤ (0x6000 : Word).toNat ∧ (0x7FFF : Word).toNat < 0x8000 ∧ 0x4020 ≤ (0x4020 : Word).toNat ∧
      (0x5FFF : Word).toNat < 0x6000) :=
  ⟨rfl, by decide, rfl, rfl, rfl, rfl, rfl, by decide⟩

/-- LoaderAndSnapshotOutcomes: an image with and one without the magic, mapper ids 0 and 1, a running, a paused and a faulted
state, a snapshot of this model and a foreign one. -/
theorem witness_LoaderAndSnapshot :
    ([0x4E, 0x45, 0x53] : List Byte).take 4 ≠ [0x4E, 0x45, 0x53, 0x1A] ∧
    ([0x4E, 0x45, 0x53, 0x1A, 1, 1, 0x10] : List Byte).take 4 = [0x4E, 0x45, 0x53, 0x1A] ∧
    imageMapperId [0x4E, 0x45, 0x53, 0x1A, 1, 1, 0x10] ≠ 0 ∧ imageMapperId [0x4E, 0x45, 0x53, 0x1A, 1, 1] = 0 ∧
    State.reset.running = true ∧ State.reset.fault = none ∧ (setRunning false State.reset).running = false ∧
    (setRunning false { State.reset with fault := some { pc := 0, opcode := 2 } }).fault ≠ none ∧
    (saveState State.reset).1.version = 1 ∧ ({ version := 2, saved := State.reset } : Snapshot).version ≠ 1 := by
  decide +kernel

/-- ResetSequenceEffects: a state that takes a reset, and a faulted one. -/
theorem witness_ResetSequence :
    (State.reset.mapper.bound = true ∧ State.reset.fault = none ∧ State.reset.BaselineSlots) ∧
    ({ State.reset with fault := some { pc := 0, opcode := 2 } } : State).fault ≠ none :=
  ⟨⟨rfl, rfl, rfl⟩, by decide⟩

end Sys2Proof.Tests
end

section
/-! The stack over any number of pushes (R17, R234). S is a byte, so it counts modulo 256 by its type; the cell it names is
0x100 + S, so no push leaves 0x100 to 0x1FF. -/

namespace Sys2Proof.Machine

@[simp] theorem push_cpu_s (v : Byte) (s : State) : (push v s).cpu.s = s.cpu.s - 1 := by
  rw [push_eq]

theorem cellsRead_push_of_outside_page (v : Byte) (s : State) {k : Nat} (hk : k < 0x100 ∨ 0x200 ≤ k) :
    cellsRead (push v s).ram k = cellsRead s.ram k := by
  have hS := s.cpu.s.isLt
  rw [push_eq]
  exact cellsRead_cellsWrite_ne (by omega) v s.ram

theorem iterate_push_cpu_s (v : Byte) (n : Nat) (s : State) :
    (iterate (push v) n s).cpu.s = s.cpu.s - BitVec.ofNat 8 n := by
  induction n generalizing s with
  | zero => exact (BitVec.sub_zero _).symm
  | succ n ih =>
    calc (iterate (push v) n (push v s)).cpu.s
        = s.cpu.s - 1 - BitVec.ofNat 8 n := by rw [ih, push_cpu_s]
      _ = s.cpu.s - BitVec.ofNat 8 (n + 1) := by bv_omega

theorem cellsRead_iterate_push_of_outside_page (v : Byte) (n : Nat) (s : State) {k : Nat} (hk : k < 0x100 ∨ 0x200 ≤ k) :
    cellsRead (iterate (push v) n s).ram k = cellsRead s.ram k := by
  induction n generalizing s with
  | zero => rfl
  | succ n ih => exact (ih (push v s)).trans (cellsRead_push_of_outside_page v s hk)

theorem pull_push {s : State} (hram : Memory.wf s.ram = true) (v : Byte) :
    pull (push v s) = (v, { push v s with cpu := s.cpu }) := by
  have hS : s.cpu.s - 1 + 1 = s.cpu.s := BitVec.sub_add_cancel _ _
  simp only [pull_eq, push_eq, hS, cellsRead_cellsWrite hram, if_true]

/-- Settles O39: the equations are the laws of one push and one pull, and each claim over n pushes is an induction on n. -/
theorem stackWrapsInItsPage : Obligations.StackWrapsInItsPage := by
  refine ⟨fun s v => ⟨push_eq v s, pull_eq s⟩, fun s v n => iterate_push_cpu_s v n s, fun s v => ⟨?_, ?_⟩,
    fun s v hram => ?_, fun s v n k hk => cellsRead_iterate_push_of_outside_page v n s hk⟩
  · exact (iterate_push_cpu_s v 256 s).trans (BitVec.sub_zero s.cpu.s)
  · exact iterate_push_cpu_s v 257 s
  · rw [pull_push hram]
    exact ⟨rfl, rfl⟩

end Sys2Proof.Machine
end

section
/-! RAM through its mirrors (R50, R110), and the model's own canonical form of storage (log 5). -/

namespace Sys2Proof.Machine

/-- Settles O40: both accesses name the cell of their address modulo 0x800, and canonical storage reads back its written cell. -/
theorem ramIsMirrored : Obligations.RamIsMirrored := by
  intro s a b v hram ha hb
  have hread : cellsRead (busWrite a v s).ram (b.toNat % 0x800) =
      if b.toNat % 0x800 = a.toNat % 0x800 then v else cellsRead s.ram (b.toNat % 0x800) := by
    rw [busWrite_ramRange ha]
    exact cellsRead_cellsWrite hram _ v _
  simp only [busRead_ramRange hb, hread, @eq_comm _ (a.toNat % 0x800)]

/-- The first index of a canonical storage is the lowest that reads as listed. -/
theorem head_le_of_cellsRead_ne_zero {w k a : Nat} {v : BitVec w} {m : Cells w} (hm : Memory.wf ((k, v) :: m) = true)
    (ha : cellsRead ((k, v) :: m) a ≠ 0) : k ≤ a := by
  simp only [Memory.wf, Bool.and_eq_true] at hm
  refine Nat.le_of_not_lt fun hlt => ?_
  exact ha (by rw [cellsRead_cons, if_neg (by omega), cellsRead_of_above hm.2 (by omega)])

/-- The first index of a canonical storage reads as its value, which is listed. -/
theorem cellsRead_head_ne_zero {w k : Nat} {v : BitVec w} {m : Cells w} (hm : Memory.wf ((k, v) :: m) = true) :
    cellsRead ((k, v) :: m) k ≠ 0 := by
  simp only [Memory.wf, Bool.and_eq_true, bne_iff_ne] at hm
  rw [cellsRead_cons, if_pos rfl]
  exact hm.1

theorem eq_of_cellsRead_eq {w : Nat} : ∀ {m n : Cells w}, Memory.wf m = true → Memory.wf n = true →
    (∀ a, cellsRead m a = cellsRead n a) → m = n
  | [], [], _, _, _ => rfl
  | [], (j, _) :: _, _, hn, h => absurd (h j).symm (cellsRead_head_ne_zero hn)
  | (k, _) :: _, [], hm, _, h => absurd (h k) (cellsRead_head_ne_zero hm)
  | (k, v) :: m, (j, u) :: n, hm, hn, h => by
    have hjk : j ≤ k := head_le_of_cellsRead_ne_zero hn (h k ▸ cellsRead_head_ne_zero hm)
    have hkj : k ≤ j := head_le_of_cellsRead_ne_zero hm ((h j).symm ▸ cellsRead_head_ne_zero hn)
    obtain rfl : k = j := Nat.le_antisymm hkj hjk
    obtain rfl : v = u := by simpa [cellsRead_cons] using h k
    simp only [Memory.wf, Bool.and_eq_true] at hm hn
    have htail : ∀ a, cellsRead m a = cellsRead n a := fun a => by
      by_cases hak : a ≤ k
      · rw [cellsRead_of_above hm.2 hak, cellsRead_of_above hn.2 hak]
      · simpa [cellsRead_cons, show ¬ k = a by omega] using h a
    rw [eq_of_cellsRead_eq (wf_of_cellsAbove hm.2) (wf_of_cellsAbove hn.2) htail]

/-- Settles O41, by induction on both lists: their first entries are the lowest listed cell, and the tails read alike. -/
theorem canonicalStorageIsDetermined : Obligations.CanonicalStorageIsDetermined :=
  fun _ _ _ hm hn h => eq_of_cellsRead_eq hm hn h

end Sys2Proof.Machine
end

section
/-! What an instruction can do, said once: besides recording a fault it changes the CPU's registers and its own cost, and all
else through the bus. The invariants of an instruction are inductions over these four changes. -/

namespace Sys2Proof.Machine

/-- `t` is reached from `s` by updates of the CPU and of the cost and by bus accesses alone. -/
inductive Accesses (s : State) : State → Prop
  | start : Accesses s s
  | cpu {t : State} (k : Cpu) : Accesses s t → Accesses s { t with cpu := k }
  | cost {t : State} (c : Nat) : Accesses s t → Accesses s { t with cost := c }
  | read {t : State} (a : Word) : Accesses s t → Accesses s (busRead a t).2
  | write {t : State} (a : Word) (v : Byte) : Accesses s t → Accesses s (busWrite a v t)

/-- An effect on the CPU's registers alone. -/
def CpuOnly (f : State → State) : Prop := ∀ s, ∃ k, f s = { s with cpu := k }

theorem Accesses.cpuOnly {s t : State} {f : State → State} (hf : CpuOnly f) (h : Accesses s t) : Accesses s (f t) := by
  obtain ⟨k, hk⟩ := hf t
  rw [hk]
  exact h.cpu k

/-! ## The shared operations -/

theorem Accesses.push {s t : State} (v : Byte) (h : Accesses s t) : Accesses s (push v t) := (h.write _ v).cpu _

theorem Accesses.pull {s t : State} (h : Accesses s t) : Accesses s (pull t).2 := (h.cpu _).read _

theorem Accesses.pushWord {s t : State} (w : Word) (h : Accesses s t) : Accesses s (pushWord w t) := (h.push _).push _

theorem Accesses.pullWord {s t : State} (h : Accesses s t) : Accesses s (pullWord t).2 := h.pull.pull

theorem Accesses.takeException {s t : State} (ret : Word) (b : Bool) (vec : Word) (h : Accesses s t) :
    Accesses s (takeException ret b vec t) :=
  (((((h.pushWord ret).push _).cpu _).read vec).read (vec + 1)).cpu _

theorem Accesses.returnFromException {s t : State} (h : Accesses s t) : Accesses s (returnFromException t) :=
  (h.pull.cpu _).pullWord.cpu _

theorem Accesses.charge {s t : State} (op : Byte) (h : Accesses s t) : Accesses s (t.charge op) := h.cost _

theorem Accesses.readOperand {s t : State} (o : Operand) (h : Accesses s t) : Accesses s (readOperand o t).2 := by
  rw [readOperand_eq]
  split
  · exact h
  · exact (h.cost _).read _

/-! ## The shapes of an instruction -/

theorem readInstr_accesses (op : Byte) (o : Operand) {effect : Byte → State → State} (he : ∀ m, CpuOnly (effect m))
    (s : State) : Accesses s (readInstr op o effect s) :=
  (((Accesses.start.charge op).readOperand o).cpuOnly (he _)).cpu _

theorem storeInstr_accesses (op : Byte) (o : Operand) (value : Cpu → Byte) (s : State) :
    Accesses s (storeInstr op o value s) := by
  simp only [storeInstr, resolve_st]
  exact ((Accesses.start.charge op).write _ _).cpu _

theorem rmwInstr_accesses (op : Byte) (o : Operand) (alu : Flags → Byte → Byte × Flags) {combine : Byte → State → State}
    (hc : ∀ r, CpuOnly (combine r)) (s : State) : Accesses s (rmwInstr op o alu combine s) := by
  simp only [rmwInstr, resolve_st]
  exact (((((Accesses.start.charge op).read _).cpu _).write _ _).cpuOnly (hc _)).cpu _

theorem accInstr_accesses (op : Byte) (alu : Flags → Byte → Byte × Flags) (s : State) : Accesses s (accInstr op alu s) :=
  (Accesses.start.charge op).cpu _

theorem impliedInstr_accesses (op : Byte) {effect : State → State} {s : State} (he : Accesses s (effect (s.charge op))) :
    Accesses s (impliedInstr op effect s) :=
  he.cpu _

theorem impliedInstr_accesses_of_cpuOnly (op : Byte) {effect : State → State} (he : CpuOnly effect) (s : State) :
    Accesses s (impliedInstr op effect s) :=
  impliedInstr_accesses op ((Accesses.start.charge op).cpuOnly he)

theorem branchInstr_accesses (op offset : Byte) (cond : Bool) (s : State) : Accesses s (branchInstr op offset cond s) := by
  have hs : Accesses s ((s.charge op).skip 2) := (Accesses.start.charge op).cpu _
  unfold branchInstr
  simp only
  split
  · exact (hs.cost _).cpu _
  · exact hs

/-! ## Every instruction -/

/-- What an instruction ends in (R360, R705): where its opcode traps, the recorded fault and no other change; elsewhere a state
its accesses reach. -/
def InstrOutcome (i : Instr) (s t : State) : Prop :=
  ∃ op rest, encode i = op :: rest ∧
    (classTraps s.params (opcodeClass op) = true ∧ t = raiseUnimplemented op s ∨
      classTraps s.params (opcodeClass op) = false ∧ Accesses s t)

theorem outcome_of_official {i : Instr} {op : Byte} {rest : List Byte} {s t : State} (hi : encode i = op :: rest)
    (hc : opcodeClass op = .official) (h : Accesses s t) : InstrOutcome i s t :=
  ⟨op, rest, hi, .inr ⟨by rw [hc]; rfl, h⟩⟩

theorem outcome_of_gated {i : Instr} {op : Byte} {rest : List Byte} {body : State → State} {s : State}
    (hi : encode i = op :: rest) (hc : opcodeClass op = .unofficial) (h : Accesses s (body s)) :
    InstrOutcome i s (gated op body s) := by
  refine ⟨op, rest, hi, ?_⟩
  rw [hc]
  unfold gated
  split
  · next hgate => exact .inr ⟨by simp [classTraps, hgate], h⟩
  · next hgate => exact .inl ⟨by simp [classTraps, hgate], rfl⟩

theorem outcome_of_faulting {i : Instr} {op : Byte} {rest : List Byte} {s : State} (hi : encode i = op :: rest)
    (hc : classTraps s.params (opcodeClass op) = true) : InstrOutcome i s (raiseUnimplemented op s) :=
  ⟨op, rest, hi, .inl ⟨hc, rfl⟩⟩

/-- Every instruction ends in a next state, by its shape (files 40 to 46). -/
theorem exec_outcome (i : Instr) (s : State) : ∃ t, exec i s = .next t ∧ InstrOutcome i s t := by
  cases i
  case oraIndx | oraZp | oraImm | oraAbs | oraIndy | oraZpx | oraAbsy | oraAbsx | andIndx | andZp | andImm | andAbs | andIndy |
      andZpx | andAbsy | andAbsx | eorIndx | eorZp | eorImm | eorAbs | eorIndy | eorZpx | eorAbsy | eorAbsx | adcIndx | adcZp |
      adcImm | adcAbs | adcIndy | adcZpx | adcAbsy | adcAbsx | sbcIndx | sbcZp | sbcImm | sbcAbs | sbcIndy | sbcZpx | sbcAbsy |
      sbcAbsx | ldaIndx | ldaZp | ldaImm | ldaAbs | ldaIndy | ldaZpx | ldaAbsy | ldaAbsx | ldxImm | ldxZp | ldxAbs | ldxZpy |
      ldxAbsy | ldyImm | ldyZp | ldyAbs | ldyZpx | ldyAbsx | cmpIndx | cmpZp | cmpImm | cmpAbs | cmpIndy | cmpZpx | cmpAbsy |
      cmpAbsx | cpxImm | cpxZp | cpxAbs | cpyImm | cpyZp | cpyAbs | bitZp | bitAbs =>
    exact ⟨_, rfl, outcome_of_official rfl rfl (readInstr_accesses _ _ (fun _ _ => ⟨_, rfl⟩) s)⟩
  case staIndx | staZp | staAbs | staIndy | staZpx | staAbsy | staAbsx | stxZp | stxAbs | stxZpy | styZp | styAbs | styZpx =>
    exact ⟨_, rfl, outcome_of_official rfl rfl (storeInstr_accesses _ _ _ s)⟩
  case aslZp | aslAbs | aslZpx | aslAbsx | rolZp | rolAbs | rolZpx | rolAbsx | lsrZp | lsrAbs | lsrZpx | lsrAbsx | rorZp |
      rorAbs | rorZpx | rorAbsx | decZp | decAbs | decZpx | decAbsx | incZp | incAbs | incZpx | incAbsx =>
    exact ⟨_, rfl, outcome_of_official rfl rfl (rmwInstr_accesses _ _ _ (fun _ _ => ⟨_, rfl⟩) s)⟩
  case aslAcc | rolAcc | lsrAcc | rorAcc => exact ⟨_, rfl, outcome_of_official rfl rfl (accInstr_accesses _ _ s)⟩
  case clc | sec | cli | sei | cld | sed | clv | nop | inx | iny | dex | dey | tax | tay | txa | tya | tsx | txs =>
    exact ⟨_, rfl, outcome_of_official rfl rfl (impliedInstr_accesses_of_cpuOnly _ (fun _ => ⟨_, rfl⟩) s)⟩
  case bpl | bmi | bvc | bvs | bcc | bcs | bne | beq =>
    exact ⟨_, rfl, outcome_of_official rfl rfl (branchInstr_accesses _ _ _ s)⟩
  case pha | php =>
    exact ⟨_, rfl, outcome_of_official rfl rfl (impliedInstr_accesses _ ((Accesses.start.charge _).push _))⟩
  case pla | plp =>
    exact ⟨_, rfl, outcome_of_official rfl rfl (impliedInstr_accesses _ ((Accesses.start.charge _).pull.cpu _))⟩
  case jmpAbs => exact ⟨_, rfl, outcome_of_official rfl rfl ((Accesses.start.charge _).cpu _)⟩
  case jmpInd => exact ⟨_, rfl, outcome_of_official rfl rfl ((((Accesses.start.charge _).read _).read _).cpu _)⟩
  case jsr => exact ⟨_, rfl, outcome_of_official rfl rfl (((Accesses.start.charge _).pushWord _).cpu _)⟩
  case rts => exact ⟨_, rfl, outcome_of_official rfl rfl ((Accesses.start.charge _).pullWord.cpu _)⟩
  case brk => exact ⟨_, rfl, outcome_of_official rfl rfl ((Accesses.start.charge _).takeException _ _ _)⟩
  case rti => exact ⟨_, rfl, outcome_of_official rfl rfl (Accesses.start.charge _).returnFromException⟩
  case nopZp04 | nopZp44 | nopZp64 | nopZpx14 | nopZpx34 | nopZpx54 | nopZpx74 | nopZpxD4 | nopZpxF4 | nopAbs | nopAbsx1C |
      nopAbsx3C | nopAbsx5C | nopAbsx7C | nopAbsxDC | nopAbsxFC | nopImm80 | nopImm82 | nopImm89 | nopImmC2 | nopImmE2 |
      laxIndx | laxZp | laxAbs | laxIndy | laxZpy | laxAbsy | ancImm0B | ancImm2B | alrImm | arrImm | axsImm | sbcImmEB =>
    exact ⟨_, rfl, outcome_of_gated rfl rfl (readInstr_accesses _ _ (fun _ _ => ⟨_, rfl⟩) s)⟩
  case saxIndx | saxZp | saxAbs | saxZpy => exact ⟨_, rfl, outcome_of_gated rfl rfl (storeInstr_accesses _ _ _ s)⟩
  case sloIndx | sloZp | sloAbs | sloIndy | sloZpx | sloAbsy | sloAbsx | rlaIndx | rlaZp | rlaAbs | rlaIndy | rlaZpx |
      rlaAbsy | rlaAbsx | sreIndx | sreZp | sreAbs | sreIndy | sreZpx | sreAbsy | sreAbsx | rraIndx | rraZp | rraAbs |
      rraIndy | rraZpx | rraAbsy | rraAbsx | dcpIndx | dcpZp | dcpAbs | dcpIndy | dcpZpx | dcpAbsy | dcpAbsx | iscIndx |
      iscZp | iscAbs | iscIndy | iscZpx | iscAbsy | iscAbsx =>
    exact ⟨_, rfl, outcome_of_gated rfl rfl (rmwInstr_accesses _ _ _ (fun _ _ => ⟨_, rfl⟩) s)⟩
  case nopImpl1A | nopImpl3A | nopImpl5A | nopImpl7A | nopImplDA | nopImplFA =>
    exact ⟨_, rfl, outcome_of_gated rfl rfl (impliedInstr_accesses_of_cpuOnly _ (fun _ => ⟨_, rfl⟩) s)⟩
  case jam02 | jam12 | jam22 | jam32 | jam42 | jam52 | jam62 | jam72 | jam92 | jamB2 | jamD2 | jamF2 | aneImm | lxaImm |
      shaIndy | shaAbsy | shxAbsy | shyAbsx | tasAbsy | lasAbsy =>
    exact ⟨_, rfl, outcome_of_faulting rfl rfl⟩

theorem outcome_of_exec {i : Instr} {s t : State} (h : exec i s = .next t) : InstrOutcome i s t := by
  obtain ⟨u, hu, ho⟩ := exec_outcome i s
  obtain rfl : u = t := Host.Outcome.next.inj (hu.symm.trans h)
  exact ho

/-! ## What accesses keep -/

/-- What no instruction and no device changes: the cartridge, the parameters, the running flag, and the mapper but for its two
RAMs (R72, R76, R620, R621, R690). -/
def keepsMachine (s t : State) : Prop :=
  t.cart = s.cart ∧ t.params = s.params ∧ t.running = s.running ∧
    t.mapper = { s.mapper with prgRam := t.mapper.prgRam, chrRam := t.mapper.chrRam }

theorem keepsMachine_refl (s : State) : keepsMachine s s := ⟨rfl, rfl, rfl, rfl⟩

theorem keepsMachine_trans {s t u : State} (h : keepsMachine s t) (k : keepsMachine t u) : keepsMachine s u := by
  obtain ⟨hcart, hparams, hrunning, hmapper⟩ := h
  obtain ⟨kcart, kparams, krunning, kmapper⟩ := k
  refine ⟨kcart.trans hcart, kparams.trans hparams, krunning.trans hrunning, ?_⟩
  rw [kmapper, hmapper]

theorem busRead_keepsMachine (a : Word) (s : State) : keepsMachine s (busRead a s).2 := by
  rw [busRead_frame]
  exact keepsMachine_refl s

theorem busWrite_keepsMachine (a : Word) (v : Byte) (s : State) : keepsMachine s (busWrite a v s) :=
  ⟨busWrite_cart a v s, busWrite_params a v s, busWrite_running a v s, busWrite_mapper a v s⟩

theorem Accesses.keepsMachine {s t : State} (h : Accesses s t) : keepsMachine s t := by
  induction h with
  | start => exact keepsMachine_refl s
  | cpu _ _ ih => exact ih
  | cost _ _ ih => exact ih
  | read a _ ih => exact keepsMachine_trans ih (busRead_keepsMachine a _)
  | write a v _ ih => exact keepsMachine_trans ih (busWrite_keepsMachine a v _)

theorem Accesses.fault_eq {s t : State} (h : Accesses s t) : t.fault = s.fault := by
  induction h with
  | start => rfl
  | cpu _ _ ih => exact ih
  | cost _ _ ih => exact ih
  | read a _ ih => exact (busRead_fault a _).trans ih
  | write a v _ ih => exact (busWrite_fault a v _).trans ih

theorem Accesses.cpuCycles_eq {s t : State} (h : Accesses s t) : t.cpuCycles = s.cpuCycles := by
  induction h with
  | start => rfl
  | cpu _ _ ih => exact ih
  | cost _ _ ih => exact ih
  | read a _ ih => exact (busRead_cpuCycles a _).trans ih
  | write a v _ ih => exact (busWrite_cpuCycles a v _).trans ih

theorem Accesses.storageForm {s t : State} (hs : s.StorageForm) (h : Accesses s t) : t.StorageForm := by
  induction h with
  | start => exact hs
  | cpu _ _ ih => exact storage_congr ih rfl ⟨rfl, rfl, rfl, rfl, rfl⟩ rfl rfl
  | cost _ _ ih => exact storage_congr ih rfl ⟨rfl, rfl, rfl, rfl, rfl⟩ rfl rfl
  | read a _ ih => exact busRead_storage ih a
  | write a v _ ih => exact busWrite_storage ih a v

theorem Accesses.ranges {s t : State} (hs : s.Ranges) (h : Accesses s t) : t.Ranges := by
  induction h with
  | start => exact hs
  | cpu _ _ ih => exact ih
  | cost _ _ ih => exact ih
  | read a _ ih => exact busRead_ranges ih a
  | write a v _ ih => exact busWrite_ranges ih a v

/-- Settles O37: a trapping opcode records its fault and changes nothing else; any other instruction makes accesses alone. -/
theorem frameOfMachine : Obligations.FrameOfMachine := by
  intro i s t h
  obtain ⟨op, rest, hi, ⟨htraps, rfl⟩ | ⟨_, hacc⟩⟩ := outcome_of_exec h
  · refine ⟨rfl, rfl, rfl, rfl, rfl, fun op' rest' hi' hnot => ?_⟩
    obtain ⟨rfl, _⟩ := List.cons.inj (hi.symm.trans hi')
    exact absurd (htraps.symm.trans hnot) (by decide)
  · obtain ⟨hcart, hparams, hrunning, hmapper⟩ := hacc.keepsMachine
    exact ⟨hcart, hparams, hrunning, hacc.cpuCycles_eq, hmapper, fun _ _ _ _ => hacc.fault_eq⟩

end Sys2Proof.Machine
end

section
/-! What a step can do, said once (R650): its fetch and its instruction make accesses or record a fault, and after them only dots,
APU ticks, counted cycles, the step's own variables, the NMI latch and an entry's accesses follow. Each invariant of a step is an
induction over these changes. -/

namespace Sys2Proof.Machine

/-- `t` is reached from `s` by the accesses of instructions and interrupt entries and by running the devices. -/
inductive Evolves (s : State) : State → Prop
  | start : Evolves s s
  | accesses {t u : State} : Evolves s t → Accesses t u → Evolves s u
  | fault {t : State} (f : Option FaultRecord) : Evolves s t → Evolves s { t with fault := f }
  | nmi {t : State} (b : Bool) : Evolves s t → Evolves s { t with nmiPending := b }
  | locals {t : State} (c d n : Nat) : Evolves s t → Evolves s { t with cost := c, dmaCycles := d, stallPending := n }
  | dot {t : State} : Evolves s t → Evolves s (ppuTick t)
  | tick {t : State} (k : Nat) : Evolves s t → Evolves s (apuTick k t)
  | cycles {t : State} (n : Nat) : Evolves s t → Evolves s (t.addCycles n)

/-! ## The parts of a step -/

theorem Evolves.fetch {s t : State} (h : Evolves s t) : Evolves s (fetch t).2 := by
  have hop : Accesses t (busRead t.cpu.pc t).2 := Accesses.start.read _
  unfold Machine.fetch
  simp only
  split
  · exact h.accesses hop
  · split
    · exact h.accesses hop
    · exact h.accesses (hop.read _)
    · exact h.accesses ((hop.read _).read _)

theorem Evolves.exec {s t u : State} {i : Instr} (h : Evolves s t) (he : exec i t = .next u) : Evolves s u := by
  obtain ⟨op, rest, _, ⟨_, rfl⟩ | ⟨_, hacc⟩⟩ := outcome_of_exec he
  · exact h.fault _
  · exact h.accesses hacc

theorem Evolves.dots {s : State} : ∀ (n : Nat) {t : State}, Evolves s t → Evolves s (iterate ppuTick n t)
  | 0, _, h => h
  | n + 1, _, h => Evolves.dots n h.dot

theorem Evolves.ticks {s : State} : ∀ (n k : Nat) {t : State}, Evolves s t → Evolves s (apuTicks n k t)
  | 0, _, _, h => h
  | n + 1, k, _, h => Evolves.ticks n (k + 1) (h.tick k)

theorem Evolves.advance {s t : State} (n : Nat) (h : Evolves s t) : Evolves s (advance n t) :=
  ((h.dots (3 * n)).ticks n t.cpuCycles).cycles n

theorem Evolves.drainRounds {s : State} : ∀ (fuel : Nat) {t : State}, Evolves s t → Evolves s (drainRounds fuel t)
  | 0, _, h => h
  | fuel + 1, t, h => by
    unfold Machine.drainRounds
    split
    · exact h
    · exact Evolves.drainRounds fuel ((h.locals t.cost t.dmaCycles 0).advance t.stallPending)

theorem Evolves.drainStalls {s t : State} (h : Evolves s t) : Evolves s (drainStalls t) := h.drainRounds _

theorem Evolves.enterInterrupt {s t : State} (k : Interrupt) (h : Evolves s t) : Evolves s (enterInterrupt k t) := by
  cases k with
  | nmi => exact (h.nmi false).accesses (Accesses.start.takeException _ _ _)
  | irq => exact h.accesses (Accesses.start.takeException _ _ _)

theorem Evolves.checkInterrupts {s t : State} (h : Evolves s t) : Evolves s (checkInterrupts t) := by
  unfold Machine.checkInterrupts
  split
  · next k _ => exact ((h.enterInterrupt k).advance 7).drainStalls
  · exact h

theorem Evolves.finish {s t : State} (h : Evolves s t) : Evolves s (finish t) := by
  unfold Machine.finish
  split
  · exact h
  · exact (h.advance _).drainStalls.checkInterrupts.locals 0 0 0

theorem evolves_of_step {s t : State} (h : step s = .next t) : Evolves s t := by
  have hfetch : Evolves s (fetch (clearLocals s)).2 := (Evolves.start.locals 0 0 0).fetch
  unfold step at h
  split at h
  · cases h
  · split at h
    · cases h
    · split at h
      · cases h
      · simp only at h
        split at h
        · next u hu =>
          cases h
          exact (hfetch.exec hu).finish
        · cases h
        · cases h

/-! ## What a step keeps -/

theorem keepsMachine_of_keepsRun {s t : State} (h : keepsRun s t) : keepsMachine s t := by
  obtain ⟨_, _, hrunning, _, hcart, hmapper, hparams, _, _⟩ := h
  exact ⟨hcart, hparams, hrunning, by rw [hmapper]⟩

theorem Evolves.keepsMachine {s t : State} (h : Evolves s t) : keepsMachine s t := by
  induction h with
  | start => exact keepsMachine_refl s
  | accesses _ hacc ih => exact keepsMachine_trans ih hacc.keepsMachine
  | fault _ _ ih => exact ih
  | nmi _ _ ih => exact ih
  | locals _ _ _ _ ih => exact ih
  | dot _ ih => exact keepsMachine_trans ih (keepsMachine_of_keepsRun (ppuTick_keeps _))
  | tick k _ ih => exact keepsMachine_trans ih (keepsMachine_of_keepsRun (apuTick_keeps k _))
  | cycles _ _ ih => exact ih

theorem Evolves.storageForm {s t : State} (hs : s.StorageForm) (h : Evolves s t) : t.StorageForm := by
  induction h with
  | start => exact hs
  | accesses _ hacc ih => exact hacc.storageForm ih
  | fault _ _ ih => exact storage_congr ih rfl ⟨rfl, rfl, rfl, rfl, rfl⟩ rfl rfl
  | nmi _ _ ih => exact storage_congr ih rfl ⟨rfl, rfl, rfl, rfl, rfl⟩ rfl rfl
  | locals _ _ _ _ ih => exact storage_congr ih rfl ⟨rfl, rfl, rfl, rfl, rfl⟩ rfl rfl
  | dot _ ih => exact ppuTick_storage ih
  | tick k _ ih => exact apuTick_storage ih k
  | cycles _ _ ih => exact storage_congr ih rfl ⟨rfl, rfl, rfl, rfl, rfl⟩ rfl rfl

theorem Evolves.ranges {s t : State} (hs : s.Ranges) (h : Evolves s t) : t.Ranges := by
  induction h with
  | start => exact hs
  | accesses _ hacc ih => exact hacc.ranges ih
  | fault _ _ ih => exact ih
  | nmi _ _ ih => exact ih
  | locals _ _ _ _ ih => exact ih
  | dot _ ih => exact ppuTick_ranges ih
  | tick k _ ih => exact apuTick_ranges ih k
  | cycles _ _ ih => exact ih

/-- The baseline slots look at the cartridge and at none of the mapper's RAMs (R620, R621). -/
theorem keepsMachine.baselineSlots {s t : State} (h : keepsMachine s t) (hs : s.BaselineSlots) : t.BaselineSlots := by
  obtain ⟨hcart, _, _, hmapper⟩ := h
  unfold State.BaselineSlots at hs ⊢
  rw [hmapper, hcart, hs]
  rfl

/-- Settles O57, by induction over what a step can do: every bus access, dot and tick keeps every storage's form. -/
theorem stepKeepsStorageForm : Obligations.StepKeepsStorageForm :=
  fun _ _ hs h => (evolves_of_step h).storageForm hs

/-- Settles O58, by induction over what a step can do: every bus access, dot and tick keeps the counters in range. -/
theorem stepKeepsRanges : Obligations.StepKeepsRanges :=
  fun _ _ hs h => (evolves_of_step h).ranges hs

/-- Settles O59, by induction over what a step can do: of these fields only the mapper's two RAMs are ever written. -/
theorem stepKeepsCartridgeAndParameters : Obligations.StepKeepsCartridgeAndParameters := by
  intro s t h
  have hkeeps := (evolves_of_step h).keepsMachine
  have hslots : s.BaselineSlots → t.BaselineSlots := hkeeps.baselineSlots
  obtain ⟨hcart, hparams, hrunning, hmapper⟩ := hkeeps
  exact ⟨hcart, hparams, hrunning, hmapper, hslots⟩

end Sys2Proof.Machine
end

section
/-! An operand outside the device windows (R110, R200): neither a read nor a write of its address reaches a register of the PPU,
of the APU or of a port, and the instructions with an operand make no other access. -/

namespace Sys2Proof.Machine

/-! ## What an access outside the windows leaves alone -/

/-- The device registers of the two states agree: those of the PPU, of the APU and of the ports, and the NMI latch. -/
def keepsDevices (s t : State) : Prop :=
  t.ppu = s.ppu ∧ t.apu = s.apu ∧ t.ports = s.ports ∧ t.nmiPending = s.nmiPending

theorem keepsDevices_refl (s : State) : keepsDevices s s := ⟨rfl, rfl, rfl, rfl⟩

theorem keepsDevices_trans {s t u : State} (h : keepsDevices s t) (k : keepsDevices t u) : keepsDevices s u := by
  obtain ⟨hppu, hapu, hports, hnmi⟩ := h
  obtain ⟨kppu, kapu, kports, knmi⟩ := k
  exact ⟨kppu.trans hppu, kapu.trans hapu, kports.trans hports, knmi.trans hnmi⟩

theorem keepsDevices.charge {s t : State} {op : Byte} (h : keepsDevices (s.charge op) t) : keepsDevices s t := h

theorem keepsDevices.addCost {s t : State} {n : Nat} (h : keepsDevices (s.addCost n) t) : keepsDevices s t := h

theorem keepsDevices.setP {s t : State} {p : Flags} (h : keepsDevices (s.setP p) t) : keepsDevices s t := h

theorem keepsDevices.skip {s t : State} (n : Nat) (h : keepsDevices s t) : keepsDevices s (t.skip n) := h

theorem keepsDevices.cpuOnly {s t : State} {f : State → State} (hf : CpuOnly f) (h : keepsDevices s t) :
    keepsDevices s (f t) := by
  obtain ⟨k, hk⟩ := hf t
  rw [hk]
  exact h

theorem beq_eq_false_of_toNat_lt {a r : Word} (h : r.toNat < a.toNat) : (a == r) = false :=
  beq_eq_false_iff_ne.2 fun he => Nat.lt_irrefl _ (he ▸ h)

theorem busRead_mapperRange {a : Word} (ha : 0x4020 ≤ a.toNat) (s : State) : busRead a s = mapperRead a s := by
  have hne {r : Word} (hr : r.toNat < 0x4020) : (a == r) = false := beq_eq_false_of_toNat_lt (Nat.lt_of_lt_of_le hr ha)
  have h1 : ¬ a.toNat < 0x2000 := by omega
  have h2 : ¬ a.toNat < 0x4000 := by omega
  have h3 : ¬ a.toNat < 0x4020 := by omega
  simp [busRead, h1, h2, h3, hne]

theorem busWrite_mapperRange {a : Word} (ha : 0x4020 ≤ a.toNat) (v : Byte) (s : State) :
    busWrite a v s = mapperWrite a v s := by
  have hne {r : Word} (hr : r.toNat < 0x4020) : (a == r) = false := beq_eq_false_of_toNat_lt (Nat.lt_of_lt_of_le hr ha)
  have h1 : ¬ a.toNat < 0x2000 := by omega
  have h2 : ¬ a.toNat < 0x4000 := by omega
  have h3 : ¬ a.toNat < 0x4014 := by omega
  have h4 : ¬ a.toNat < 0x4020 := by omega
  simp [busWrite, h1, h2, h3, h4, hne]

theorem mapperRead_keepsDevices (a : Word) (s : State) : keepsDevices s (mapperRead a s).2 := by
  unfold mapperRead
  repeat' split
  all_goals exact keepsDevices_refl s

theorem mapperWrite_keepsDevices (a : Word) (v : Byte) (s : State) : keepsDevices s (mapperWrite a v s) := by
  unfold mapperWrite
  split <;> exact keepsDevices_refl s

/-- The addresses of no device register: RAM's below the windows, the cartridge's above them (R110). -/
def OutsideWindows (a : Word) : Prop := a.toNat < 0x2000 ∨ 0x4020 ≤ a.toNat

theorem busRead_keepsDevices {a : Word} (ha : OutsideWindows a) (s : State) : keepsDevices s (busRead a s).2 := by
  obtain hram | hcart := ha
  · rw [busRead_ramRange hram]
    exact keepsDevices_refl s
  · rw [busRead_mapperRange hcart]
    exact mapperRead_keepsDevices a s

theorem busWrite_keepsDevices {a : Word} (ha : OutsideWindows a) (v : Byte) (s : State) :
    keepsDevices s (busWrite a v s) := by
  obtain hram | hcart := ha
  · rw [busWrite_ramRange hram]
    exact keepsDevices_refl s
  · rw [busWrite_mapperRange hcart]
    exact mapperWrite_keepsDevices a v s

/-! ## The three shapes with an operand -/

/-- An immediate operand makes no access, and any other one a read of its effective address (R176). -/
theorem readOperand_keepsDevices {o : Operand} {s : State} (ho : OutsideWindows (resolve o s).ea ∨ ∃ b, o = .imm b) :
    keepsDevices s (readOperand o s).2 := by
  rw [readOperand_eq]
  split
  · exact keepsDevices_refl s
  · next himm =>
    obtain hea | ⟨b, rfl⟩ := ho
    · exact (busRead_keepsDevices hea _).addCost
    · exact absurd rfl (himm b)

theorem readInstr_keepsDevices {op : Byte} {o : Operand} {effect : Byte → State → State} (he : ∀ m, CpuOnly (effect m))
    {s : State} (ho : OutsideWindows (resolve o (s.charge op)).ea ∨ ∃ b, o = .imm b) :
    keepsDevices s (readInstr op o effect s) :=
  ((readOperand_keepsDevices ho).charge.cpuOnly (he _)).skip _

theorem storeInstr_keepsDevices {op : Byte} {o : Operand} (value : Cpu → Byte) {s : State}
    (ho : OutsideWindows (resolve o (s.charge op)).ea) : keepsDevices s (storeInstr op o value s) := by
  simp only [storeInstr, resolve_st]
  exact (busWrite_keepsDevices ho _ _).charge.skip _

theorem rmwInstr_keepsDevices {op : Byte} {o : Operand} (alu : Flags → Byte → Byte × Flags)
    {combine : Byte → State → State} (hc : ∀ r, CpuOnly (combine r)) {s : State}
    (ho : OutsideWindows (resolve o (s.charge op)).ea) : keepsDevices s (rmwInstr op o alu combine s) := by
  simp only [rmwInstr, resolve_st]
  exact ((keepsDevices_trans (busRead_keepsDevices ho _).charge (busWrite_keepsDevices ho _ _).setP).cpuOnly (hc _)).skip _

/-! ## Every form by its shape -/

/-- What an instruction of a class does, `body` being its work: an unofficial one does it behind the gate (R360). -/
def underClass (c : OpcodeClass) (op : Byte) (body : State → State) : State → State :=
  match c with
  | .unofficial => gated op body
  | _ => body

/-- The instruction of the form ends in the next state that `body` gives, under the class of its opcode. -/
def Form.Does (f : Form) (body : State → State) : Prop :=
  ∀ s, exec f.instr s = .next (underClass (opcodeClass f.opcode) f.opcode body s)

theorem readForms_does (b : Byte) (a : Word) : ∀ f ∈ readForms b a, ∃ effect : Byte → State → State,
    f.Does (readInstr f.opcode f.operand effect) ∧ ∀ m, CpuOnly (effect m) := by
  simp only [readForms, ldaForms, ldxForms, ldyForms, adcForms, sbcForms, andForms, oraForms, eorForms, cmpForms, cpxForms,
    cpyForms, bitForms, laxForms, nopReadForms, ancForms, alrForms, arrForms, axsForms, sbcCopyForms, List.forall_mem_append,
    List.forall_mem_cons, List.not_mem_nil, false_imp_iff, implies_true, and_true, Form.Does]
  repeat' apply And.intro
  all_goals
    refine ⟨_, fun _ => rfl, ?_⟩
    exact fun _ _ => ⟨_, rfl⟩

theorem storeForms_does (b : Byte) (a : Word) : ∀ f ∈ storeForms b a, ∃ value : Cpu → Byte,
    f.Does (storeInstr f.opcode f.operand value) := by
  simp only [storeForms, staForms, stxForms, styForms, saxForms, List.forall_mem_append, List.forall_mem_cons,
    List.not_mem_nil, false_imp_iff, implies_true, and_true, Form.Does]
  repeat' apply And.intro
  all_goals exact ⟨_, fun _ => rfl⟩

theorem rmwForms_does (b : Byte) (a : Word) : ∀ f ∈ rmwForms b a,
    ∃ (alu : Flags → Byte → Byte × Flags) (combine : Byte → State → State),
      f.Does (rmwInstr f.opcode f.operand alu combine) ∧ ∀ r, CpuOnly (combine r) := by
  simp only [rmwForms, incForms, decForms, aslForms, lsrForms, rolForms, rorForms, sloForms, rlaForms, sreForms, rraForms,
    dcpForms, iscForms, List.forall_mem_append, List.forall_mem_cons, List.not_mem_nil, false_imp_iff, implies_true, and_true,
    Form.Does]
  repeat' apply And.intro
  all_goals
    refine ⟨_, _, fun _ => rfl, ?_⟩
    exact fun _ _ => ⟨_, rfl⟩

/-- Storing and read-modify-write instructions have no immediate form. -/
theorem operand_ne_imm (b : Byte) (a : Word) : ∀ f ∈ storeForms b a ++ rmwForms b a, f.operand ≠ .imm b := by
  simp [storeForms, staForms, stxForms, styForms, saxForms, rmwForms, incForms, decForms, aslForms, lsrForms, rolForms,
    rorForms, sloForms, rlaForms, sreForms, rraForms, dcpForms, iscForms]

theorem underClass_keepsDevices {body : State → State} {s : State} (c : OpcodeClass) (op : Byte)
    (h : keepsDevices s (body s)) : keepsDevices s (underClass c op body s) := by
  unfold underClass gated
  repeat' split
  · exact h
  · exact keepsDevices_refl s
  · exact h

theorem Form.Does.keepsDevices {f : Form} {body : State → State} {s t : State} (hdoes : f.Does body)
    (hexec : exec f.instr s = .next t) (hbody : keepsDevices s (body s)) : keepsDevices s t := by
  obtain rfl := Host.Outcome.next.inj ((hdoes s).symm.trans hexec)
  exact underClass_keepsDevices _ _ hbody

/-- Settles O38, by the form's shape: all its accesses are of the operand's address, which reaches no device. -/
theorem frameOfDevices : Obligations.FrameOfDevices := by
  intro s t b a f hf hexec hea
  have hplace (himm : f.operand ≠ .imm b) : OutsideWindows (formEa f s) := by
    obtain hram | hcart | h := hea
    · exact .inl hram
    · exact .inr hcart
    · exact absurd h himm
  obtain (hread | hstore) | hrmw := (List.mem_append.1 hf).imp_left List.mem_append.1
  · obtain ⟨effect, hdoes, heffect⟩ := readForms_does b a f hread
    refine hdoes.keepsDevices hexec (readInstr_keepsDevices heffect ?_)
    by_cases himm : f.operand = .imm b
    · exact .inr ⟨b, himm⟩
    · exact .inl (hplace himm)
  · obtain ⟨value, hdoes⟩ := storeForms_does b a f hstore
    have himm := operand_ne_imm b a f (List.mem_append_left _ hstore)
    exact hdoes.keepsDevices hexec (storeInstr_keepsDevices value (hplace himm))
  · obtain ⟨alu, combine, hdoes, hcombine⟩ := rmwForms_does b a f hrmw
    have himm := operand_ne_imm b a f (List.mem_append_right _ hrmw)
    exact hdoes.keepsDevices hexec (rmwInstr_keepsDevices alu hcombine (hplace himm))

end Sys2Proof.Machine
end

section
/-! The PPU address space by its three regions (R131 to R137): what a write stores, what a read answers, and when two addresses
of a region reach the same cell. -/

namespace Sys2Proof.Machine

theorem ppuRead_pattern {a : BitVec 14} (ha : a.toNat < 0x2000) (c : Cart) (m : Mapper) (p : Ppu) :
    ppuRead c m p a = patternRead c m a.toNat :=
  if_pos ha

theorem ppuRead_nametable {a : BitVec 14} (hlo : 0x2000 ≤ a.toNat) (hhi : a.toNat < 0x3F00) (c : Cart) (m : Mapper) (p : Ppu) :
    ppuRead c m p a = cellsRead p.ntRam (nametableCell c.mirroring a.toNat) :=
  (if_neg (Nat.not_lt.2 hlo)).trans (if_pos hhi)

theorem ppuRead_palette {a : BitVec 14} (ha : 0x3F00 ≤ a.toNat) (c : Cart) (m : Mapper) (p : Ppu) :
    ppuRead c m p a = (cellsRead p.palette (paletteAlias (a.toNat % 32))).setWidth 8 :=
  (if_neg (by omega)).trans (if_neg (Nat.not_lt.2 ha))

theorem ppuWrite_pattern {a : BitVec 14} (ha : a.toNat < 0x2000) (d : Byte) (s : State) :
    ppuWrite a d s = { s with mapper := patternWrite s.cart s.mapper a.toNat d } :=
  if_pos ha

theorem ppuWrite_nametable {a : BitVec 14} (hlo : 0x2000 ≤ a.toNat) (hhi : a.toNat < 0x3F00) (d : Byte) (s : State) :
    ppuWrite a d s =
      { s with ppu := { s.ppu with ntRam := cellsWrite s.ppu.ntRam (nametableCell s.cart.mirroring a.toNat) d } } :=
  (if_neg (Nat.not_lt.2 hlo)).trans (if_pos hhi)

theorem ppuWrite_palette {a : BitVec 14} (ha : 0x3F00 ≤ a.toNat) (d : Byte) (s : State) :
    ppuWrite a d s =
      { s with ppu := { s.ppu with
          palette := cellsWrite s.ppu.palette (paletteAlias (a.toNat % 32)) (d.setWidth 6) } } :=
  (if_neg (by omega)).trans (if_neg (Nat.not_lt.2 ha))

/-- CHR RAM reads back its written cell; a write of CHR ROM stores nothing (R131). -/
theorem patternRead_patternWrite {m : Mapper} (hm : Memory.wf m.chrRam = true) (c : Cart) (a b : Nat) (d : Byte) :
    patternRead c (patternWrite c m a d) b = if c.chrBanks = 0 ∧ b = a then d else patternRead c m b := by
  by_cases hc : c.chrBanks = 0
  · simp [patternRead, patternWrite, hc, cellsRead_cellsWrite hm]
  · simp [patternRead, patternWrite, hc]

theorem pageMap_getElem? (mir : Mirroring) {q : Nat} (hq : q < 4) : (pageMap mir)[q]? = some (nametablePage mir q) := by
  have hall : ∀ q : Fin 4, (pageMap mir)[q.1]? = some (nametablePage mir q.1) := by cases mir <;> decide
  exact hall ⟨q, hq⟩

/-- A nametable cell is its page and its offset there (R132 to R134). -/
theorem sameNametableCell_iff (mir : Mirroring) (a b : BitVec 14) :
    sameNametableCell mir a b ↔ nametableCell mir a.toNat = nametableCell mir b.toNat := by
  have hpage : ∀ e : BitVec 14, (pageMap mir)[(e.extractLsb' 10 2).toNat]? = some (nametablePage mir (e.toNat / 0x400 % 4)) :=
    fun e => by
      rw [BitVec.extractLsb'_toNat, Nat.shiftRight_eq_div_pow]
      exact pageMap_getElem? mir (Nat.mod_lt _ (by decide))
  have hoffset : ∀ e : BitVec 14, (e.extractLsb' 0 10).toNat = e.toNat % 0x400 := fun e => by
    rw [BitVec.extractLsb'_toNat, Nat.shiftRight_zero]
  simp only [sameNametableCell, hpage, Option.some.injEq, ← BitVec.toNat_inj, hoffset, nametableCell]
  omega

/-- The cell of a palette index, in numbers: a multiple of 4 names the cell of its value modulo 16 (R136). -/
theorem paletteAlias_eq {p : Nat} (hp : p < 32) : paletteAlias p = if p % 4 = 0 then p % 16 else p :=
  (by decide : ∀ q : Fin 32, paletteAlias q.1 = if q.1 % 4 = 0 then q.1 % 16 else q.1) ⟨p, hp⟩

theorem samePaletteCell_iff (a b : BitVec 14) :
    samePaletteCell a b ↔ paletteAlias (a.toNat % 32) = paletteAlias (b.toNat % 32) := by
  simp only [samePaletteCell, ← BitVec.toNat_inj, BitVec.extractLsb'_toNat, Nat.shiftRight_zero, BitVec.ofNat_eq_ofNat,
    BitVec.toNat_ofNat, paletteAlias_eq (Nat.mod_lt _ (by decide : 0 < 32))]
  split <;> split <;> omega

/-- A byte through a 6-bit palette cell keeps its low 6 bits (R135). -/
theorem setWidth_six_eight (d : Byte) : (d.setWidth 6).setWidth 8 = d &&& 0x3F := by
  apply BitVec.eq_of_toNat_eq
  have hmask : d.toNat &&& 0x3F = d.toNat % 64 := Nat.and_two_pow_sub_one_eq_mod d.toNat 6
  rw [BitVec.toNat_setWidth, BitVec.toNat_setWidth, BitVec.toNat_and]
  exact (Nat.mod_eq_of_lt (by omega)).trans hmask.symm

/-! ## A read after a write in the same region -/

section
variable {s : State} (hs : s.StorageForm) (d : Byte) {a b : BitVec 14}
include hs

theorem ppuRead_ppuWrite_pattern (ha : a.toNat < 0x2000) (hb : b.toNat < 0x2000) :
    ppuRead s.cart (ppuWrite a d s).mapper (ppuWrite a d s).ppu b =
      if s.cart.chrBanks = 0 ∧ a = b then d else ppuRead s.cart s.mapper s.ppu b := by
  rw [ppuWrite_pattern ha, ppuRead_pattern hb, ppuRead_pattern hb, patternRead_patternWrite hs.chrRam.1]
  simp only [BitVec.toNat_inj, eq_comm]

theorem ppuRead_ppuWrite_nametable (halo : 0x2000 ≤ a.toNat) (hahi : a.toNat < 0x3F00) (hblo : 0x2000 ≤ b.toNat)
    (hbhi : b.toNat < 0x3F00) :
    ppuRead s.cart (ppuWrite a d s).mapper (ppuWrite a d s).ppu b =
      if sameNametableCell s.cart.mirroring a b then d else ppuRead s.cart s.mapper s.ppu b := by
  rw [ppuWrite_nametable halo hahi, ppuRead_nametable hblo hbhi, ppuRead_nametable hblo hbhi,
    cellsRead_cellsWrite hs.ntRam.1]
  simp only [sameNametableCell_iff, eq_comm]

theorem ppuRead_ppuWrite_palette (ha : 0x3F00 ≤ a.toNat) (hb : 0x3F00 ≤ b.toNat) :
    ppuRead s.cart (ppuWrite a d s).mapper (ppuWrite a d s).ppu b =
      if samePaletteCell a b then d &&& 0x3F else ppuRead s.cart s.mapper s.ppu b := by
  rw [ppuWrite_palette ha, ppuRead_palette hb, ppuRead_palette hb, cellsRead_cellsWrite hs.palette.1,
    apply_ite (BitVec.setWidth 8), setWidth_six_eight]
  simp only [samePaletteCell_iff, eq_comm]

end

/-- Settles O47, region by region: a read after a write answers the written byte just where both addresses reach one cell. -/
theorem ppuSpaceReadsBackWhatWasWritten : Obligations.PpuSpaceReadsBackWhatWasWritten := by
  intro s d hs
  refine ⟨fun a b ha hb => ?_, fun a b halo hahi hblo hbhi => ?_, fun a b ha hb => ?_⟩
  · rw [ppuRead_ppuWrite_pattern hs d ha hb]
    exact ⟨fun h => if_pos h, fun h => if_neg h⟩
  · rw [ppuRead_ppuWrite_nametable hs d halo hahi hblo hbhi]
    exact ⟨fun h => if_pos h, fun h => if_neg h⟩
  · rw [ppuRead_ppuWrite_palette hs d ha hb]
    exact ⟨fun h => if_pos h, fun h => if_neg h⟩

end Sys2Proof.Machine
end

section
/-! The encoding (R170 to R173, R186, R191): what the decoder answers, by the number of bytes the opcode asks for; and the two sides
of the round trip, one by the cells of the opcode map and one by the instructions. -/

namespace Sys2Proof.Machine

/-! ## The decoder -/

/-- The instruction of an opcode byte and the list of its operand bytes. -/
def decodeWith (op : Byte) (bs : List Byte) : Instr := decodeOp op (bs.getD 0 0) (bs.getD 1 0)

theorem modeLength_bounds (m : Mode) : 1 ≤ m.length ∧ m.length ≤ 3 := by
  cases m <;> decide

theorem opcodeLength_bounds (op : Byte) : 1 ≤ opcodeLength op ∧ opcodeLength op ≤ 3 := modeLength_bounds _

theorem decode_append {op : Byte} {bs : List Byte} (h : opcodeLength op = 1 + bs.length) (rest : List Byte) :
    decode (op :: (bs ++ rest)) = .ok (decodeWith op bs, rest) := by
  have hle := (opcodeLength_bounds op).2
  match bs with
  | [] | [_] | [_, _] => simp [decode, h, decodeWith]
  | _ :: _ :: _ :: _ => simp only [List.length_cons] at h; omega

theorem decode_short {op : Byte} {rest : List Byte} (h : 1 + rest.length < opcodeLength op) :
    decode (op :: rest) = .error (.operandMissing op) := by
  have hle := (opcodeLength_bounds op).2
  match rest with
  | [] =>
    obtain hop | hop : opcodeLength op = 2 ∨ opcodeLength op = 3 := by simp only [List.length_nil] at h; omega
    · simp [decode, hop]
    · simp [decode, hop]
  | [_] =>
    have hop : opcodeLength op = 3 := by simp only [List.length_singleton] at h; omega
    simp [decode, hop]
  | _ :: _ :: _ => simp only [List.length_cons] at h; omega

/-- The operand bytes of an opcode stand right after it. -/
theorem decode_of_length_le {op : Byte} {rest : List Byte} (h : opcodeLength op ≤ 1 + rest.length) :
    opcodeLength op = 1 + (rest.take (opcodeLength op - 1)).length ∧
      decode (op :: rest) =
        .ok (decodeWith op (rest.take (opcodeLength op - 1)), rest.drop (opcodeLength op - 1)) := by
  have hpos := (opcodeLength_bounds op).1
  have hlen : opcodeLength op = 1 + (rest.take (opcodeLength op - 1)).length := by rw [List.length_take]; omega
  have hdec := decode_append hlen (rest.drop (opcodeLength op - 1))
  rw [List.take_append_drop] at hdec
  exact ⟨hlen, hdec⟩

/-! ## Every instruction -/

/-- The encoding of the instruction is an opcode and as many operand bytes as it asks for, and they decode to the instruction. -/
def RoundTrips (i : Instr) : Prop :=
  ∃ op bs, encode i = op :: bs ∧ opcodeLength op = 1 + bs.length ∧ decodeWith op bs = i

/-- A 16-bit operand is put together again from its two bytes (R173). -/
theorem roundTrips_word {op : Byte} {build : Word → Instr}
    (hencode : ∀ a, encode (build a) = [op, loByte a, hiByte a]) (hlength : opcodeLength op = 3)
    (hdecode : ∀ b1 b2, decodeOp op b1 b2 = build (mkWord b2 b1)) (a : Word) : RoundTrips (build a) :=
  ⟨op, _, hencode a, hlength, (hdecode _ _).trans (congrArg build (mkWord_bytes a))⟩

/-- By the instruction's length: only a 16-bit operand is not its own bytes. -/
theorem roundTrips (i : Instr) : RoundTrips i := by
  cases i
  case nopAbs | oraAbs | aslAbs | sloAbs | oraAbsy | sloAbsy | nopAbsx1C | oraAbsx | aslAbsx | sloAbsx | jsr | bitAbs |
      andAbs | rolAbs | rlaAbs | andAbsy | rlaAbsy | nopAbsx3C | andAbsx | rolAbsx | rlaAbsx | jmpAbs | eorAbs | lsrAbs |
      sreAbs | eorAbsy | sreAbsy | nopAbsx5C | eorAbsx | lsrAbsx | sreAbsx | jmpInd | adcAbs | rorAbs | rraAbs | adcAbsy |
      rraAbsy | nopAbsx7C | adcAbsx | rorAbsx | rraAbsx | styAbs | staAbs | stxAbs | saxAbs | staAbsy | tasAbsy | shyAbsx |
      staAbsx | shxAbsy | shaAbsy | ldyAbs | ldaAbs | ldxAbs | laxAbs | ldaAbsy | lasAbsy | ldyAbsx | ldaAbsx | ldxAbsy |
      laxAbsy | cpyAbs | cmpAbs | decAbs | dcpAbs | cmpAbsy | dcpAbsy | nopAbsxDC | cmpAbsx | decAbsx | dcpAbsx | cpxAbs |
      sbcAbs | incAbs | iscAbs | sbcAbsy | iscAbsy | nopAbsxFC | sbcAbsx | incAbsx | iscAbsx =>
    exact roundTrips_word (fun _ => rfl) rfl (fun _ _ => rfl) _
  all_goals exact ⟨_, _, rfl, rfl, rfl⟩

/-- Settles O1: the instruction's own bytes are as many as its opcode asks for, and decode to it. -/
theorem decodeInvertsEncode : Obligations.DecodeInvertsEncode := by
  intro i rest
  obtain ⟨op, bs, hencode, hlength, hdecode⟩ := roundTrips i
  rw [hencode, List.cons_append, decode_append hlength, hdecode]

/-! ## Every cell of the opcode map -/

/-- The operand bytes of a mode as the encoder writes them, a 16-bit operand low byte first (R173). -/
def modeBytes (m : Mode) (b1 b2 : Byte) : List Byte :=
  match m.length with
  | 1 => []
  | 2 => [b1]
  | _ => [loByte (mkWord b2 b1), hiByte (mkWord b2 b1)]

/-- The instructions of the cell are encoded with the given opcode and the operand bytes of the cell's mode. -/
def CellEncodes (r : OpcodeRow) (op : Byte) : Prop :=
  ∀ b1 b2, encode (r.build b1 b2) = op :: modeBytes r.mode b1 b2

/-- Each entry of a list has the property of its number, the numbers beginning at `first` and rising by `width`. -/
def EachFrom {α : Type} (p : Nat → α → Prop) (width : Nat) : Nat → List α → Prop
  | _, [] => True
  | first, x :: xs => p first x ∧ EachFrom p width (first + width) xs

theorem EachFrom.getD {α : Type} {p : Nat → α → Prop} {width : Nat} (d : α) : ∀ {first : Nat} {xs : List α} {k : Nat},
    EachFrom p width first xs → k < xs.length → p (first + width * k) (xs.getD k d)
  | _, _ :: _, 0, ⟨hhead, _⟩, _ => hhead
  | _, _ :: _, _ + 1, ⟨_, htail⟩, hk => by
    have hentry := htail.getD d (Nat.lt_of_succ_lt_succ hk)
    rwa [Nat.add_assoc, Nat.add_comm width, ← Nat.mul_succ] at hentry

/-- The cells of a line of the map encode to their opcodes, from `first` on. -/
def LineEncodes (first : Nat) (line : List OpcodeRow) : Prop :=
  EachFrom (fun n r => CellEncodes r (BitVec.ofNat 8 n)) 1 first line

/-- The opcode map, cell by cell (R186). -/
theorem opcodeMap_encodes : EachFrom LineEncodes 16 0 opcodeMap := by
  repeat' constructor
  all_goals exact fun _ _ => rfl

theorem opcodeMap_line_length : ∀ {n : Nat}, n < 16 → (opcodeMap.getD n []).length = 16 := by
  decide

theorem opcodeRow_encodes (op : Byte) : CellEncodes (opcodeRow op) op := by
  have hop := op.isLt
  have hline : op.toNat / 16 < 16 := by omega
  have hcolumn : op.toNat % 16 < (opcodeMap.getD (op.toNat / 16) []).length := by
    rw [opcodeMap_line_length hline]
    omega
  have hcell := (opcodeMap_encodes.getD [] hline).getD ⟨.impl, .official, fun _ _ => .brk⟩ hcolumn
  rwa [Nat.zero_add, Nat.one_mul, Nat.div_add_mod, BitVec.ofNat_toNat, BitVec.setWidth_eq] at hcell

theorem encode_decodeWith {op : Byte} {bs : List Byte} (h : opcodeLength op = 1 + bs.length) :
    encode (decodeWith op bs) = op :: bs := by
  have hle := (opcodeLength_bounds op).2
  have hmode : (opcodeRow op).mode.length = 1 + bs.length := h
  refine (opcodeRow_encodes op _ _).trans ?_
  match bs with
  | [] | [_] | [_, _] => simp [modeBytes, hmode]
  | _ :: _ :: _ :: _ => simp only [List.length_cons] at h; omega

/-- Settles O2: bytes that decode begin with an opcode and its operand bytes, which the opcode's cell writes again. -/
theorem encodeInvertsDecode : Obligations.EncodeInvertsDecode := by
  intro bytes rest i h
  match bytes with
  | [] => cases h
  | op :: tail =>
    obtain hshort | hle := Nat.lt_or_ge (1 + tail.length) (opcodeLength op)
    · cases (decode_short hshort).symm.trans h
    · obtain ⟨hlength, hdecode⟩ := decode_of_length_le hle
      obtain ⟨rfl, rfl⟩ := Prod.mk.inj (Except.ok.inj (hdecode.symm.trans h))
      rw [encode_decodeWith hlength, List.cons_append, List.take_append_drop]

/-- Settles O3: by whether the operand bytes of the opcode are there. -/
theorem decodeRefusesOnlyShortInput : Obligations.DecodeRefusesOnlyShortInput :=
  ⟨opcodeLength_bounds, fun _ _ => ⟨fun hle => ⟨_, (decode_of_length_le hle).2⟩, decode_short⟩⟩

/-- Settles O4: each word by running the decoder on it, and each count over the 256 cells of the map. -/
theorem specWordsDecode : Obligations.SpecWordsDecode := by
  refine ⟨rfl, rfl, rfl, rfl, rfl, rfl, rfl, rfl, rfl, rfl, rfl, rfl, rfl, rfl, rfl, rfl, ?_, ?_, ?_, ?_⟩
  all_goals decide +kernel

end Sys2Proof.Machine
end

section
/-! The cycles of a step (R185, R651, R652, R654) and the levels they give to the sound output (R501, R581): an instruction charges
at least its base cost, and everything after it counts exactly the cycles of its calls of `Advance(n)`. -/

namespace Sys2Proof.Machine

/-! ## The cost of an instruction -/

theorem CpuOnly.cost_eq {f : State → State} (hf : CpuOnly f) (s : State) : (f s).cost = s.cost := by
  obtain ⟨k, hk⟩ := hf s
  rw [hk]

@[simp] theorem push_cost (v : Byte) (s : State) : (push v s).cost = s.cost := by simp [push]

@[simp] theorem pull_cost (s : State) : (pull s).2.cost = s.cost := by simp [pull]

@[simp] theorem pushWord_cost (w : Word) (s : State) : (pushWord w s).cost = s.cost := by simp [pushWord]

@[simp] theorem pullWord_cost (s : State) : (pullWord s).2.cost = s.cost := by simp [pullWord]

@[simp] theorem takeException_cost (ret : Word) (b : Bool) (vec : Word) (s : State) :
    (takeException ret b vec s).cost = s.cost := by
  simp [takeException, read16]

@[simp] theorem returnFromException_cost (s : State) : (returnFromException s).cost = s.cost := by
  simp [returnFromException]

theorem readOperand_cost_le (o : Operand) (s : State) : s.cost ≤ (readOperand o s).2.cost := by
  rw [readOperand_eq]
  split
  · exact Nat.le_refl _
  · simp

theorem readInstr_cost_le (op : Byte) (o : Operand) {effect : Byte → State → State} (he : ∀ m, CpuOnly (effect m)) (s : State) :
    baseCost s.params op ≤ (readInstr op o effect s).cost := by
  simpa [readInstr, (he _).cost_eq] using readOperand_cost_le o (s.charge op)

theorem storeInstr_cost (op : Byte) (o : Operand) (value : Cpu → Byte) (s : State) :
    (storeInstr op o value s).cost = baseCost s.params op := by
  simp [storeInstr]

theorem rmwInstr_cost (op : Byte) (o : Operand) (alu : Flags → Byte → Byte × Flags) {combine : Byte → State → State}
    (hc : ∀ r, CpuOnly (combine r)) (s : State) : (rmwInstr op o alu combine s).cost = baseCost s.params op := by
  simp [rmwInstr, (hc _).cost_eq]

theorem accInstr_cost (op : Byte) (alu : Flags → Byte → Byte × Flags) (s : State) :
    (accInstr op alu s).cost = baseCost s.params op := rfl

theorem impliedInstr_cost (op : Byte) {effect : State → State} (he : ∀ s, (effect s).cost = s.cost) (s : State) :
    (impliedInstr op effect s).cost = baseCost s.params op :=
  he (s.charge op)

theorem pushA_cost (s : State) : (pushA s).cost = s.cost := push_cost _ s

theorem pushP_cost (s : State) : (pushP s).cost = s.cost := push_cost _ s

theorem pullA_cost (s : State) : (pullA s).cost = s.cost := pull_cost s

theorem pullP_cost (s : State) : (pullP s).cost = s.cost := pull_cost s

theorem jumpTo_cost (op : Byte) (a : Word) (s : State) : (jumpTo op a s).cost = baseCost s.params op := rfl

theorem jumpIndirect_cost (op : Byte) (a : Word) (s : State) : (jumpIndirect op a s).cost = baseCost s.params op := by
  simp [jumpIndirect, readIndirect]

theorem callSub_cost (op : Byte) (a : Word) (s : State) : (callSub op a s).cost = baseCost s.params op := by
  simp [callSub]

theorem returnSub_cost (op : Byte) (s : State) : (returnSub op s).cost = baseCost s.params op := by
  simp [returnSub]

theorem softwareInterrupt_cost (op : Byte) (s : State) : (softwareInterrupt op s).cost = baseCost s.params op := by
  simp [softwareInterrupt]

theorem interruptReturn_cost (op : Byte) (s : State) : (interruptReturn op s).cost = baseCost s.params op := by
  simp [interruptReturn]

theorem branchInstr_cost_le (op offset : Byte) (cond : Bool) (s : State) :
    baseCost s.params op ≤ (branchInstr op offset cond s).cost := by
  unfold branchInstr
  simp only
  split
  · simp
  · simp

/-- An instruction that ends without a fault charges at least the base cost of its opcode (R651). -/
def CostsItsBase (i : Instr) (s t : State) : Prop :=
  ∃ op rest, encode i = op :: rest ∧ (t.fault = none → baseCost s.params op ≤ t.cost)

theorem underClass_cases (c : OpcodeClass) (op : Byte) (body : State → State) (s : State) :
    underClass c op body s = body s ∨ underClass c op body s = raiseUnimplemented op s := by
  unfold underClass gated
  split
  · split
    · exact .inl rfl
    · exact .inr rfl
  · exact .inl rfl

/-- An instruction that does its work under the class of its opcode: where the gate refuses the work, a fault is recorded. -/
theorem costsItsBase_of_exec {i : Instr} {op : Byte} {rest : List Byte} {body : State → State} {s : State}
    (hi : encode i = op :: rest) (hexec : exec i s = .next (underClass (opcodeClass op) op body s))
    (hcost : baseCost s.params op ≤ (body s).cost) : ∃ t, exec i s = .next t ∧ CostsItsBase i s t := by
  refine ⟨_, hexec, op, rest, hi, ?_⟩
  obtain hdone | hrefused := underClass_cases (opcodeClass op) op body s
  · rw [hdone]
    exact fun _ => hcost
  · rw [hrefused]
    exact fun hfault => absurd hfault (Option.some_ne_none _)

theorem costsItsBase_of_cost_eq {i : Instr} {op : Byte} {rest : List Byte} {body : State → State} {s : State}
    (hi : encode i = op :: rest) (hexec : exec i s = .next (underClass (opcodeClass op) op body s))
    (hcost : (body s).cost = baseCost s.params op) : ∃ t, exec i s = .next t ∧ CostsItsBase i s t :=
  costsItsBase_of_exec hi hexec (Nat.le_of_eq hcost.symm)

/-- Every instruction by its shape (files 40 to 46); those not named read an operand. -/
theorem exec_costsItsBase (i : Instr) (s : State) : ∃ t, exec i s = .next t ∧ CostsItsBase i s t := by
  cases i
  case jam02 | jam12 | jam22 | jam32 | jam42 | jam52 | jam62 | jam72 | jam92 | jamB2 | jamD2 | jamF2 | aneImm | lxaImm |
      shaIndy | shaAbsy | shxAbsy | shyAbsx | tasAbsy | lasAbsy =>
    exact ⟨_, rfl, _, _, rfl, fun hfault => absurd hfault (Option.some_ne_none _)⟩
  case staIndx | staZp | staAbs | staIndy | staZpx | staAbsy | staAbsx | stxZp | stxAbs | stxZpy | styZp | styAbs | styZpx |
      saxIndx | saxZp | saxAbs | saxZpy =>
    exact costsItsBase_of_cost_eq rfl rfl (storeInstr_cost _ _ _ s)
  case aslZp | aslAbs | aslZpx | aslAbsx | rolZp | rolAbs | rolZpx | rolAbsx | lsrZp | lsrAbs | lsrZpx | lsrAbsx | rorZp |
      rorAbs | rorZpx | rorAbsx | decZp | decAbs | decZpx | decAbsx | incZp | incAbs | incZpx | incAbsx | sloIndx | sloZp |
      sloAbs | sloIndy | sloZpx | sloAbsy | sloAbsx | rlaIndx | rlaZp | rlaAbs | rlaIndy | rlaZpx | rlaAbsy | rlaAbsx |
      sreIndx | sreZp | sreAbs | sreIndy | sreZpx | sreAbsy | sreAbsx | rraIndx | rraZp | rraAbs | rraIndy | rraZpx |
      rraAbsy | rraAbsx | dcpIndx | dcpZp | dcpAbs | dcpIndy | dcpZpx | dcpAbsy | dcpAbsx | iscIndx | iscZp | iscAbs |
      iscIndy | iscZpx | iscAbsy | iscAbsx =>
    exact costsItsBase_of_cost_eq rfl rfl (rmwInstr_cost _ _ _ (fun _ _ => ⟨_, rfl⟩) s)
  case aslAcc | rolAcc | lsrAcc | rorAcc => exact costsItsBase_of_cost_eq rfl rfl (accInstr_cost _ _ s)
  case clc | sec | cli | sei | cld | sed | clv | nop | inx | iny | dex | dey | tax | tay | txa | tya | tsx | txs | nopImpl1A |
      nopImpl3A | nopImpl5A | nopImpl7A | nopImplDA | nopImplFA =>
    exact costsItsBase_of_cost_eq rfl rfl (impliedInstr_cost _ (CpuOnly.cost_eq fun _ => ⟨_, rfl⟩) s)
  case pha => exact costsItsBase_of_cost_eq rfl rfl (impliedInstr_cost _ pushA_cost s)
  case php => exact costsItsBase_of_cost_eq rfl rfl (impliedInstr_cost _ pushP_cost s)
  case pla => exact costsItsBase_of_cost_eq rfl rfl (impliedInstr_cost _ pullA_cost s)
  case plp => exact costsItsBase_of_cost_eq rfl rfl (impliedInstr_cost _ pullP_cost s)
  case bpl | bmi | bvc | bvs | bcc | bcs | bne | beq => exact costsItsBase_of_exec rfl rfl (branchInstr_cost_le _ _ _ s)
  case jmpAbs => exact costsItsBase_of_cost_eq rfl rfl (jumpTo_cost _ _ s)
  case jmpInd => exact costsItsBase_of_cost_eq rfl rfl (jumpIndirect_cost _ _ s)
  case jsr => exact costsItsBase_of_cost_eq rfl rfl (callSub_cost _ _ s)
  case rts => exact costsItsBase_of_cost_eq rfl rfl (returnSub_cost _ s)
  case brk => exact costsItsBase_of_cost_eq rfl rfl (softwareInterrupt_cost _ s)
  case rti => exact costsItsBase_of_cost_eq rfl rfl (interruptReturn_cost _ s)
  all_goals exact costsItsBase_of_exec rfl rfl (readInstr_cost_le _ _ (fun _ _ => ⟨_, rfl⟩) s)

/-- The base costs of the default table that an instruction without a fault can charge (R185). -/
theorem two_le_cycles {par : Params} {op : Byte} (h : classTraps par (opcodeClass op) = false) :
    2 ≤ Params.cycles.getD op.toNat 0 := by
  have htable : ∀ op : Byte, opcodeClass op = .unstable ∨ opcodeClass op = .jam ∨ 2 ≤ Params.cycles.getD op.toNat 0 := by
    decide +kernel
  obtain hclass | hclass | hcycles := htable op
  · rw [hclass] at h
    cases h
  · rw [hclass] at h
    cases h
  · exact hcycles

theorem two_le_cost_of_exec {i : Instr} {s t : State} (htable : s.params.cycleTable = Params.cycles) (h : exec i s = .next t)
    (ht : t.fault = none) : 2 ≤ t.cost := by
  obtain ⟨u, hu, op, rest, hi, hcost⟩ := exec_costsItsBase i s
  obtain rfl : u = t := Host.Outcome.next.inj (hu.symm.trans h)
  obtain ⟨op', rest', hi', ⟨_, rfl⟩ | ⟨hclass, _⟩⟩ := outcome_of_exec h
  · exact absurd ht (Option.some_ne_none _)
  · obtain ⟨rfl, _⟩ := List.cons.inj (hi.symm.trans hi')
    refine Nat.le_trans ?_ (hcost ht)
    unfold baseCost
    rw [htable]
    exact two_le_cycles hclass

/-! ## The cycles of a step -/

theorem fetch_accesses (s : State) : Accesses s (fetch s).2 := by
  have hop : Accesses s (busRead s.cpu.pc s).2 := Accesses.start.read _
  unfold fetch
  simp only
  split
  · exact hop
  · split
    · exact hop
    · exact hop.read _
    · exact (hop.read _).read _

theorem exec_cpuCycles {i : Instr} {s t : State} (h : exec i s = .next t) : t.cpuCycles = s.cpuCycles := by
  obtain ⟨_, _, _, ⟨_, rfl⟩ | ⟨_, hacc⟩⟩ := outcome_of_exec h
  · rfl
  · exact hacc.cpuCycles_eq

theorem enterInterrupt_cpuCycles (k : Interrupt) (s : State) : (enterInterrupt k s).cpuCycles = s.cpuCycles := by
  cases k with
  | nmi => exact (Accesses.start.takeException _ _ _).cpuCycles_eq
  | irq => exact (Accesses.start.takeException _ _ _).cpuCycles_eq

theorem callCycles_cons (c : Nat × State) (cs : List (Nat × State)) : callCycles (c :: cs) = c.1 + callCycles cs := by
  simp [callCycles]

theorem callCycles_append (cs ds : List (Nat × State)) : callCycles (cs ++ ds) = callCycles cs + callCycles ds := by
  simp [callCycles]

theorem checkInterrupts_cpuCycles (s : State) : (checkInterrupts s).cpuCycles = s.cpuCycles + callCycles (interruptCalls s) := by
  cases hpending : pendingInterrupt s with
  | none =>
    simp only [checkInterrupts, interruptCalls, hpending]
    rfl
  | some k =>
    simp only [checkInterrupts, interruptCalls, hpending]
    rw [takeInterrupt, advanceCalls_cycles, enterInterrupt_cpuCycles]

theorem finish_cpuCycles (t : State) : (finish t).cpuCycles = t.cpuCycles + callCycles (finishCalls t) := by
  unfold finish finishCalls
  split
  · rfl
  · rw [clearLocals_cpuCycles, checkInterrupts_cpuCycles, advanceCalls_cycles, callCycles_append, Nat.add_assoc]

theorem cost_le_finishCalls {t : State} (ht : t.fault = none) : t.cost ≤ callCycles (finishCalls t) := by
  have hrun : ¬ t.fault.isSome := by simp [ht]
  rw [finishCalls, if_neg hrun, callCycles_append, advanceCalls, callCycles_cons]
  omega

/-- A step that answers a next state executes what it fetched and ends as `finish` says (R650); its calls are those after the
instruction. -/
theorem exec_of_step {s t : State} (h : step s = .next t) :
    ∃ u, exec (fetch (clearLocals s)).1 (fetch (clearLocals s)).2 = .next u ∧ t = finish u ∧ stepCalls s = finishCalls u := by
  unfold step at h
  split at h
  · cases h
  · next hfault =>
    split at h
    · cases h
    · next hbound =>
      split at h
      · cases h
      · next hrunning =>
        simp only at h
        split at h
        · next u hu =>
          cases h
          have henabled : (s.fault.isNone && s.mapper.bound && s.running) = true := by simp_all
          exact ⟨u, hu, rfl, by rw [stepCalls, if_pos henabled, hu]⟩
        · cases h
        · cases h

theorem step_cpuCycles {s u : State} (hu : exec (fetch (clearLocals s)).1 (fetch (clearLocals s)).2 = .next u) :
    (finish u).cpuCycles = s.cpuCycles + callCycles (finishCalls u) := by
  rw [finish_cpuCycles, exec_cpuCycles hu, (fetch_accesses _).cpuCycles_eq, clearLocals_cpuCycles]

theorem fault_of_finish {u : State} (h : (finish u).fault = none) : u.fault = none := by
  unfold finish at h
  split at h
  · exact h
  · next hsome => simpa using hsome

theorem resetEntry_cpuCycles (s : State) : (resetEntry s).cpuCycles = s.cpuCycles := by
  simp [resetEntry, read16]

theorem hostReset_cpuCycles (s : State) : (hostReset s).cpuCycles = s.cpuCycles + callCycles (actionCalls .reset s) := by
  simp only [hostReset, actionCalls]
  split
  · rw [resetSequence, advance_cpuCycles, resetEntry_cpuCycles]
    rfl
  · rfl

/-- Settles O11: a step and a reset count the cycles of their calls of `Advance(n)`, and the first call of a step without a fault
is of at least the base cost of its opcode. -/
theorem everyStepTakesTwoCycles : Obligations.EveryStepTakesTwoCycles := by
  refine ⟨fun s t htable h ht => ?_, fun s t h => ?_, fun s => ?_⟩
  · obtain ⟨u, hu, rfl, _⟩ := exec_of_step h
    have hfault := fault_of_finish ht
    obtain ⟨_, hparams, _, _⟩ := (fetch_accesses (clearLocals s)).keepsMachine
    have hcost : 2 ≤ u.cost := two_le_cost_of_exec ((congrArg Params.cycleTable hparams).trans htable) hu hfault
    rw [step_cpuCycles hu]
    exact Nat.add_le_add_left (Nat.le_trans hcost (cost_le_finishCalls hfault)) _
  · obtain ⟨u, hu, rfl, hcalls⟩ := exec_of_step h
    rw [step_cpuCycles hu, actionLevels, callLevels_flatMap_length, actionCalls, hcalls]
  · rw [hostReset_cpuCycles, actionLevels, callLevels_flatMap_length]

end Sys2Proof.Machine
end

section
/-! What an instruction leaves alone (R113, R200), said once: of the CPU it changes PC and what its rule names, and of the
stored bytes those behind the addresses it stores to. -/

namespace Sys2Proof.Machine

/-! ## The registers and flags a list names -/

/-- The flags of `q` where the list names them, of `p` elsewhere. -/
def mergeFlags (fs : List FlagName) (p q : Flags) : Flags :=
  { c := bif fs.contains .c then q.c else p.c
    z := bif fs.contains .z then q.z else p.z
    i := bif fs.contains .i then q.i else p.i
    d := bif fs.contains .d then q.d else p.d
    v := bif fs.contains .v then q.v else p.v
    n := bif fs.contains .n then q.n else p.n }

/-- The registers and flags of `k` where the lists name them, of `j` elsewhere; PC, which every instruction writes, is `k`'s. -/
def mergeCpu (rs : List Reg) (fs : List FlagName) (j k : Cpu) : Cpu :=
  { a := bif rs.contains .a then k.a else j.a
    x := bif rs.contains .x then k.x else j.x
    y := bif rs.contains .y then k.y else j.y
    s := bif rs.contains .s then k.s else j.s
    pc := k.pc
    p := mergeFlags fs j.p k.p }

theorem flag_mergeFlags {fs : List FlagName} {f : FlagName} (hf : f ∉ fs) (p q : Flags) :
    Flags.flag (mergeFlags fs p q) f = Flags.flag p f := by
  cases f <;> simp [mergeFlags, Flags.flag, hf]

theorem reg_mergeCpu {rs : List Reg} {r : Reg} (hr : r ∉ rs) (fs : List FlagName) (j k : Cpu) :
    (mergeCpu rs fs j k).reg r = j.reg r := by
  cases r <;> simp [mergeCpu, Cpu.reg, hr]

/-- `k` agrees with `j` in every register and every flag the lists do not name. -/
def CpuWithin (rs : List Reg) (fs : List FlagName) (j k : Cpu) : Prop :=
  (∀ r, r ∉ rs → k.reg r = j.reg r) ∧ ∀ f, f ∉ fs → Flags.flag k.p f = Flags.flag j.p f

theorem cpuWithin_mergeCpu (rs : List Reg) (fs : List FlagName) (j k : Cpu) : CpuWithin rs fs j (mergeCpu rs fs j k) :=
  ⟨fun _ hr => reg_mergeCpu hr fs j k, fun _ hf => flag_mergeFlags hf j.p k.p⟩

theorem cpuWithin_refl (rs : List Reg) (fs : List FlagName) (k : Cpu) : CpuWithin rs fs k k :=
  ⟨fun _ _ => rfl, fun _ _ => rfl⟩

theorem cpuWithin_trans {rs : List Reg} {fs : List FlagName} {j k l : Cpu} (h : CpuWithin rs fs j k)
    (h' : CpuWithin rs fs k l) : CpuWithin rs fs j l :=
  ⟨fun r hr => (h'.1 r hr).trans (h.1 r hr), fun f hf => (h'.2 f hf).trans (h.2 f hf)⟩

theorem cpuWithin_pc (rs : List Reg) (fs : List FlagName) (k : Cpu) (w : Word) : CpuWithin rs fs k { k with pc := w } :=
  ⟨fun r _ => by cases r <;> rfl, fun _ _ => rfl⟩

theorem cpuWithin_p {fs : List FlagName} {k : Cpu} {q : Flags} (rs : List Reg) (h : q = mergeFlags fs k.p q) :
    CpuWithin rs fs k { k with p := q } := by
  refine ⟨fun r _ => by cases r <;> rfl, fun f hf => ?_⟩
  rw [h]
  exact flag_mergeFlags hf k.p q

theorem cpuWithin_s {rs : List Reg} (hs : .s ∈ rs) (fs : List FlagName) (k : Cpu) (v : Byte) :
    CpuWithin rs fs k { k with s := v } := by
  refine ⟨fun r hr => ?_, fun _ _ => rfl⟩
  cases r with
  | s => exact absurd hs hr
  | a | x | y => rfl

/-! ## What a sequence of changes leaves alone -/

/-- The two states agree in every register and every flag the lists do not name, and in every stored byte that no write to a
listed address reaches. -/
def LeavesAlone (rs : List Reg) (fs : List FlagName) (es : List Word) (s t : State) : Prop :=
  CpuWithin rs fs s.cpu t.cpu ∧ ∀ a, (∀ e ∈ es, sameStore e a = false) → peek t a = peek s a

section
variable {rs : List Reg} {fs : List FlagName} {es : List Word} {s t : State}

theorem leavesAlone_refl (s : State) : LeavesAlone rs fs es s s := ⟨cpuWithin_refl rs fs s.cpu, fun _ _ => rfl⟩

theorem LeavesAlone.cpu (h : LeavesAlone rs fs es s t) {k : Cpu} (hk : CpuWithin rs fs t.cpu k) :
    LeavesAlone rs fs es s { t with cpu := k } :=
  ⟨cpuWithin_trans h.1 hk, h.2⟩

theorem LeavesAlone.setPc (h : LeavesAlone rs fs es s t) (w : Word) : LeavesAlone rs fs es s (t.setPc w) :=
  h.cpu (cpuWithin_pc rs fs t.cpu w)

theorem LeavesAlone.setP (h : LeavesAlone rs fs es s t) {p : Flags} (hp : p = mergeFlags fs t.cpu.p p) :
    LeavesAlone rs fs es s (t.setP p) :=
  h.cpu (cpuWithin_p rs hp)

theorem LeavesAlone.skip (h : LeavesAlone rs fs es s t) (n : Nat) : LeavesAlone rs fs es s (t.skip n) := h.setPc _

theorem LeavesAlone.setCost (h : LeavesAlone rs fs es s t) (c : Nat) : LeavesAlone rs fs es s (t.setCost c) := h

theorem leavesAlone_charge (s : State) (op : Byte) : LeavesAlone rs fs es s (s.charge op) := (leavesAlone_refl s).setCost _

theorem LeavesAlone.read (h : LeavesAlone rs fs es s t) (a : Word) : LeavesAlone rs fs es s (busRead a t).2 := by
  obtain ⟨hcpu, hbytes⟩ := h
  refine ⟨?_, fun b hb => (peek_busRead a t b).trans (hbytes b hb)⟩
  rwa [busRead_cpu]

theorem LeavesAlone.read16 (h : LeavesAlone rs fs es s t) (a : Word) : LeavesAlone rs fs es s (read16 a t).2 :=
  (h.read a).read (a + 1)

theorem LeavesAlone.write (h : LeavesAlone rs fs es s t) {a : Word} (ha : a ∈ es) (v : Byte) :
    LeavesAlone rs fs es s (busWrite a v t) := by
  obtain ⟨hcpu, hbytes⟩ := h
  refine ⟨?_, fun b hb => (peek_busWrite_ne (hb a ha) v t).trans (hbytes b hb)⟩
  rwa [busWrite_cpu]

theorem LeavesAlone.push (h : LeavesAlone rs fs es s t) (hs : .s ∈ rs) (hcell : stackAddr t.cpu.s ∈ es) (v : Byte) :
    LeavesAlone rs fs es s (push v t) :=
  (h.write hcell v).cpu (cpuWithin_s hs fs _ _)

theorem LeavesAlone.pull (h : LeavesAlone rs fs es s t) (hs : .s ∈ rs) : LeavesAlone rs fs es s (pull t).2 :=
  (h.cpu (cpuWithin_s hs fs _ _)).read _

theorem LeavesAlone.pushWord (h : LeavesAlone rs fs es s t) (hs : .s ∈ rs) (hhigh : stackAddr t.cpu.s ∈ es)
    (hlow : stackAddr (t.cpu.s - 1) ∈ es) (w : Word) : LeavesAlone rs fs es s (pushWord w t) :=
  (h.push hs hhigh _).push hs (by rwa [push_cpu_s]) _

theorem LeavesAlone.pullWord (h : LeavesAlone rs fs es s t) (hs : .s ∈ rs) : LeavesAlone rs fs es s (pullWord t).2 :=
  (h.pull hs).pull hs

theorem LeavesAlone.readOperand (h : LeavesAlone rs fs es s t) (o : Operand) :
    LeavesAlone rs fs es s (readOperand o t).2 := by
  rw [readOperand_eq]
  split
  · exact h
  · exact (h.setCost _).read _

/-- An effect on the named registers and flags, and on PC, alone. -/
def WritesOnly (rs : List Reg) (fs : List FlagName) (f : State → State) : Prop :=
  ∀ s, f s = { s with cpu := mergeCpu rs fs s.cpu (f s).cpu }

theorem LeavesAlone.writesOnly (h : LeavesAlone rs fs es s t) {f : State → State} (hf : WritesOnly rs fs f) :
    LeavesAlone rs fs es s (f t) := by
  rw [hf t]
  exact h.cpu (cpuWithin_mergeCpu rs fs t.cpu _)

/-! ## The shapes of an instruction -/

theorem readInstr_leavesAlone (op : Byte) (o : Operand) {effect : Byte → State → State} (he : ∀ m, WritesOnly rs fs (effect m))
    (s : State) : LeavesAlone rs fs es s (readInstr op o effect s) :=
  (((leavesAlone_charge s op).readOperand o).writesOnly (he _)).skip _

theorem storeInstr_leavesAlone (op : Byte) (o : Operand) (value : Cpu → Byte) (s : State) :
    LeavesAlone rs fs [(resolve o (s.charge op)).ea] s (storeInstr op o value s) := by
  simp only [storeInstr, resolve_st]
  exact ((leavesAlone_charge s op).write (List.mem_singleton_self _) _).skip _

theorem rmwInstr_leavesAlone (op : Byte) (o : Operand) {alu : Flags → Byte → Byte × Flags} {combine : Byte → State → State}
    (halu : ∀ m p, (alu p m).2 = mergeFlags fs p (alu p m).2) (hc : ∀ r, WritesOnly rs fs (combine r)) (s : State) :
    LeavesAlone rs fs [(resolve o (s.charge op)).ea] s (rmwInstr op o alu combine s) := by
  simp only [rmwInstr, resolve_st]
  have hread : LeavesAlone rs fs [(resolve o (s.charge op)).ea] s (busRead (resolve o (s.charge op)).ea (s.charge op)).2 :=
    (leavesAlone_charge s op).read _
  exact (((hread.setP (halu _ _)).write (List.mem_singleton_self _) _).writesOnly (hc _)).skip _

theorem accInstr_leavesAlone (op : Byte) {alu : Flags → Byte → Byte × Flags}
    (halu : WritesOnly rs fs fun t => (t.setA (alu t.cpu.p t.cpu.a).1).setP (alu t.cpu.p t.cpu.a).2) (s : State) :
    LeavesAlone rs fs es s (accInstr op alu s) :=
  ((leavesAlone_charge s op).writesOnly halu).skip 1

theorem impliedInstr_leavesAlone (op : Byte) {effect : State → State}
    (he : LeavesAlone rs fs es s (effect (s.charge op))) : LeavesAlone rs fs es s (impliedInstr op effect s) :=
  he.skip 1

theorem impliedInstr_leavesAlone_of_writesOnly (op : Byte) {effect : State → State} (he : WritesOnly rs fs effect)
    (s : State) : LeavesAlone rs fs es s (impliedInstr op effect s) :=
  impliedInstr_leavesAlone op ((leavesAlone_charge s op).writesOnly he)

theorem push_charge_leavesAlone (op v : Byte) (s : State) :
    LeavesAlone [.s] fs [stackAddr s.cpu.s] s (push v (s.charge op)) :=
  (leavesAlone_charge s op).push (by decide) (List.mem_singleton_self _) v

theorem pullA_leavesAlone (op : Byte) (s : State) : LeavesAlone [.a, .s] [.n, .z] es s (impliedInstr op pullA s) := by
  have hload (v : Byte) : WritesOnly [.a, .s] [.n, .z] (loadA v) := fun _ => rfl
  exact impliedInstr_leavesAlone op (((leavesAlone_charge s op).pull (by decide)).writesOnly (hload _))

theorem pullP_leavesAlone (op : Byte) (s : State) :
    LeavesAlone [.s] [.n, .v, .d, .i, .z, .c] es s (impliedInstr op pullP s) :=
  impliedInstr_leavesAlone op (((leavesAlone_charge s op).pull (by decide)).setP rfl)

theorem jumpTo_leavesAlone (op : Byte) (a : Word) (s : State) : LeavesAlone rs fs es s (jumpTo op a s) :=
  (leavesAlone_charge s op).setPc a

theorem jumpIndirect_leavesAlone (op : Byte) (a : Word) (s : State) : LeavesAlone rs fs es s (jumpIndirect op a s) :=
  (((leavesAlone_charge s op).read _).read _).setPc _

theorem callSub_leavesAlone (op : Byte) (a : Word) (s : State) :
    LeavesAlone [.s] fs [stackAddr s.cpu.s, stackAddr (s.cpu.s - 1)] s (callSub op a s) :=
  ((leavesAlone_charge s op).pushWord (by decide) (by simp) (by simp) _).setPc a

theorem returnSub_leavesAlone (op : Byte) (s : State) : LeavesAlone [.s] fs es s (returnSub op s) :=
  ((leavesAlone_charge s op).pullWord (by decide)).setPc _

theorem softwareInterrupt_leavesAlone (op : Byte) (s : State) :
    LeavesAlone [.s] [.i] [stackAddr s.cpu.s, stackAddr (s.cpu.s - 1), stackAddr (s.cpu.s - 2)] s (softwareInterrupt op s) := by
  have hsp (w : Word) : (pushWord w (s.charge op)).cpu.s = s.cpu.s - 2 := by
    simp only [pushWord, push_cpu_s, BitVec.sub_sub]
    rfl
  exact (((((leavesAlone_charge s op).pushWord (by decide) (by simp) (by simp) _).push (by decide) (by simp [hsp]) _).setP
    rfl).read16 _).setPc _

theorem interruptReturn_leavesAlone (op : Byte) (s : State) :
    LeavesAlone [.s] [.n, .v, .d, .i, .z, .c] es s (interruptReturn op s) :=
  ((((leavesAlone_charge s op).pull (by decide)).setP rfl).pullWord (by decide)).setPc _

theorem branchInstr_leavesAlone (op offset : Byte) (cond : Bool) (s : State) :
    LeavesAlone rs fs es s (branchInstr op offset cond s) := by
  have hnext : LeavesAlone rs fs es s ((s.charge op).skip 2) := (leavesAlone_charge s op).skip 2
  unfold branchInstr
  simp only
  split
  · exact (hnext.setCost _).setPc _
  · exact hnext

end

/-! ## Every instruction -/

/-- The instruction ends in a next state, which agrees with the first in all that its lists do not name. -/
def KeepsItsFrame (i : Instr) (s : State) : Prop :=
  ∃ t, exec i s = .next t ∧ LeavesAlone (writesReg i) (writesFlag i) (storesTo i s) s t

/-- An instruction that does its work under the class of its opcode, which its encoding names: where the gate refuses the
work, the fault recorded is no part of the frame (R360, R705). -/
theorem keepsItsFrame_of_exec {i : Instr} {op : Byte} {rest : List Byte} {body : State → State} {s : State}
    (_ : encode i = op :: rest) (hexec : exec i s = .next (underClass (opcodeClass op) op body s))
    (hbody : LeavesAlone (writesReg i) (writesFlag i) (storesTo i s) s (body s)) : KeepsItsFrame i s := by
  refine ⟨_, hexec, ?_⟩
  obtain hdone | hrefused := underClass_cases (opcodeClass op) op body s
  · rwa [hdone]
  · rw [hrefused]
    exact leavesAlone_refl s

/-- Every instruction by its shape (files 40 to 46); those not named read an operand. -/
theorem exec_keepsItsFrame (i : Instr) (s : State) : KeepsItsFrame i s := by
  cases i
  case jam02 | jam12 | jam22 | jam32 | jam42 | jam52 | jam62 | jam72 | jam92 | jamB2 | jamD2 | jamF2 | aneImm | lxaImm |
      shaIndy | shaAbsy | shxAbsy | shyAbsx | tasAbsy | lasAbsy =>
    exact ⟨_, rfl, leavesAlone_refl s⟩
  case staIndx | staZp | staAbs | staIndy | staZpx | staAbsy | staAbsx | stxZp | stxAbs | stxZpy | styZp | styAbs | styZpx |
      saxIndx | saxZp | saxAbs | saxZpy =>
    exact keepsItsFrame_of_exec rfl rfl (storeInstr_leavesAlone _ _ _ s)
  case aslZp | aslAbs | aslZpx | aslAbsx | rolZp | rolAbs | rolZpx | rolAbsx | lsrZp | lsrAbs | lsrZpx | lsrAbsx | rorZp |
      rorAbs | rorZpx | rorAbsx | decZp | decAbs | decZpx | decAbsx | incZp | incAbs | incZpx | incAbsx | sloIndx | sloZp |
      sloAbs | sloIndy | sloZpx | sloAbsy | sloAbsx | rlaIndx | rlaZp | rlaAbs | rlaIndy | rlaZpx | rlaAbsy | rlaAbsx |
      sreIndx | sreZp | sreAbs | sreIndy | sreZpx | sreAbsy | sreAbsx | rraIndx | rraZp | rraAbs | rraIndy | rraZpx |
      rraAbsy | rraAbsx | dcpIndx | dcpZp | dcpAbs | dcpIndy | dcpZpx | dcpAbsy | dcpAbsx | iscIndx | iscZp | iscAbs |
      iscIndy | iscZpx | iscAbsy | iscAbsx =>
    exact keepsItsFrame_of_exec rfl rfl (rmwInstr_leavesAlone _ _ (fun _ _ => rfl) (fun _ _ => rfl) s)
  case aslAcc | rolAcc | lsrAcc | rorAcc =>
    exact keepsItsFrame_of_exec rfl rfl (accInstr_leavesAlone _ (fun _ => rfl) s)
  case clc | sec | cli | sei | cld | sed | clv | nop | inx | iny | dex | dey | tax | tay | txa | tya | tsx | txs | nopImpl1A |
      nopImpl3A | nopImpl5A | nopImpl7A | nopImplDA | nopImplFA =>
    exact keepsItsFrame_of_exec rfl rfl (impliedInstr_leavesAlone_of_writesOnly _ (fun _ => rfl) s)
  case bpl | bmi | bvc | bvs | bcc | bcs | bne | beq =>
    exact keepsItsFrame_of_exec rfl rfl (branchInstr_leavesAlone _ _ _ s)
  case pha | php =>
    exact keepsItsFrame_of_exec rfl rfl (impliedInstr_leavesAlone _ (push_charge_leavesAlone _ _ s))
  case pla => exact keepsItsFrame_of_exec rfl rfl (pullA_leavesAlone _ s)
  case plp => exact keepsItsFrame_of_exec rfl rfl (pullP_leavesAlone _ s)
  case jmpAbs => exact keepsItsFrame_of_exec rfl rfl (jumpTo_leavesAlone _ _ s)
  case jmpInd => exact keepsItsFrame_of_exec rfl rfl (jumpIndirect_leavesAlone _ _ s)
  case jsr => exact keepsItsFrame_of_exec rfl rfl (callSub_leavesAlone _ _ s)
  case rts => exact keepsItsFrame_of_exec rfl rfl (returnSub_leavesAlone _ s)
  case brk => exact keepsItsFrame_of_exec rfl rfl (softwareInterrupt_leavesAlone _ s)
  case rti => exact keepsItsFrame_of_exec rfl rfl (interruptReturn_leavesAlone _ s)
  all_goals exact keepsItsFrame_of_exec rfl rfl (readInstr_leavesAlone _ _ (fun _ _ => rfl) s)

theorem leavesAlone_of_exec {i : Instr} {s t : State} (h : exec i s = .next t) :
    LeavesAlone (writesReg i) (writesFlag i) (storesTo i s) s t := by
  obtain ⟨u, hu, hframe⟩ := exec_keepsItsFrame i s
  obtain rfl : u = t := Host.Outcome.next.inj (hu.symm.trans h)
  exact hframe

/-- Settles O34, by the registers' part of the frame that every instruction keeps. -/
theorem frameOfRegisters : Obligations.FrameOfRegisters := by
  intro i s t h r hr
  obtain ⟨⟨hregs, _⟩, _⟩ := leavesAlone_of_exec h
  exact hregs r hr

/-- Settles O35, by the flags' part of the frame that every instruction keeps. -/
theorem frameOfFlags : Obligations.FrameOfFlags := by
  intro i s t h f hf
  obtain ⟨⟨_, hflags⟩, _⟩ := leavesAlone_of_exec h
  exact hflags f hf

/-- Settles O36, by the stored bytes' part of the frame that every instruction keeps. -/
theorem frameOfMemory : Obligations.FrameOfMemory := by
  intro i s t h a ha
  obtain ⟨_, hbytes⟩ := leavesAlone_of_exec h
  exact hbytes a ha

/-- Settles O9: each of the outcomes an instruction can have is a next state, the recorded fault among them (log 6). -/
theorem everyInstructionAnswersNext : Obligations.EveryInstructionAnswersNext := by
  intro i s
  obtain ⟨t, hexec, _⟩ := exec_outcome i s
  exact ⟨t, hexec⟩

end Sys2Proof.Machine
end

section
/-! Loads, stores and transfers (R201 to R212), and what every operand form computes, in numbers (R172 to R183, R188). -/

namespace Sys2Proof.Machine

/-! ## Transfers -/

/-- An implied instruction whose effect changes the CPU alone: it then goes on one byte (R174). -/
theorem exec_implied {i : Instr} {op : Byte} {effect : State → State} {s : State}
    (hexec : exec i s = .next (impliedInstr op effect s))
    (heffect : effect (s.charge op) = { s.charge op with cpu := (effect (s.charge op)).cpu }) :
    exec i s = .next { s.charge op with
      cpu := { (effect (s.charge op)).cpu with pc := (effect (s.charge op)).cpu.pc + 1 } } := by
  rw [hexec, impliedInstr, heffect]
  rfl

/-- Settles O14: each transfer is an implied instruction, and its effect gives the CPU of its rule. -/
theorem transferResults : Obligations.TransferResults := fun _ =>
  ⟨⟨rfl, rfl⟩, exec_implied (effect := transferAX) rfl rfl, ⟨rfl, rfl⟩, exec_implied (effect := transferAY) rfl rfl,
    ⟨rfl, rfl⟩, exec_implied (effect := transferXA) rfl rfl, ⟨rfl, rfl⟩, exec_implied (effect := transferYA) rfl rfl,
    ⟨rfl, rfl⟩, exec_implied (effect := transferSX) rfl rfl, ⟨rfl, rfl⟩, exec_implied (effect := transferXS) rfl rfl⟩

/-! ## Stores and loads -/

/-- The form has its encoding line, and its instruction does the work that `body` gives. -/
def Form.Runs (f : Form) (body : State → State) : Prop :=
  f.coded ∧ ∀ s, exec f.instr s = .next (body s)

theorem staForms_run (b : Byte) (a : Word) : ∀ f ∈ staForms b a, f.Runs (storeInstr f.opcode f.operand Cpu.a) := by
  simp only [staForms, List.forall_mem_cons]
  refine ⟨?_, ?_, ?_, ?_, ?_, ?_, ?_, List.forall_mem_nil _⟩
  all_goals exact ⟨⟨rfl, rfl⟩, fun _ => rfl⟩

theorem stxForms_run (b : Byte) (a : Word) : ∀ f ∈ stxForms b a, f.Runs (storeInstr f.opcode f.operand Cpu.x) := by
  simp only [stxForms, List.forall_mem_cons]
  refine ⟨?_, ?_, ?_, List.forall_mem_nil _⟩
  all_goals exact ⟨⟨rfl, rfl⟩, fun _ => rfl⟩

theorem styForms_run (b : Byte) (a : Word) : ∀ f ∈ styForms b a, f.Runs (storeInstr f.opcode f.operand Cpu.y) := by
  simp only [styForms, List.forall_mem_cons]
  refine ⟨?_, ?_, ?_, List.forall_mem_nil _⟩
  all_goals exact ⟨⟨rfl, rfl⟩, fun _ => rfl⟩

theorem ldaForms_run (b : Byte) (a : Word) : ∀ f ∈ ldaForms b a, f.Runs (readInstr f.opcode f.operand loadA) := by
  simp only [ldaForms, List.forall_mem_cons]
  refine ⟨?_, ?_, ?_, ?_, ?_, ?_, ?_, ?_, List.forall_mem_nil _⟩
  all_goals exact ⟨⟨rfl, rfl⟩, fun _ => rfl⟩

theorem ldxForms_run (b : Byte) (a : Word) : ∀ f ∈ ldxForms b a, f.Runs (readInstr f.opcode f.operand loadX) := by
  simp only [ldxForms, List.forall_mem_cons]
  refine ⟨?_, ?_, ?_, ?_, ?_, List.forall_mem_nil _⟩
  all_goals exact ⟨⟨rfl, rfl⟩, fun _ => rfl⟩

theorem ldyForms_run (b : Byte) (a : Word) : ∀ f ∈ ldyForms b a, f.Runs (readInstr f.opcode f.operand loadY) := by
  simp only [ldyForms, List.forall_mem_cons]
  refine ⟨?_, ?_, ?_, ?_, ?_, List.forall_mem_nil _⟩
  all_goals exact ⟨⟨rfl, rfl⟩, fun _ => rfl⟩

theorem Form.Runs.store {f : Form} {value : Cpu → Byte} (h : f.Runs (storeInstr f.opcode f.operand value)) (s : State) :
    f.coded ∧ exec f.instr s =
      .next { busWrite (formEa f s) (value s.cpu) (s.charge f.opcode) with cpu := { s.cpu with pc := nextPc f s } } := by
  obtain ⟨hcoded, hexec⟩ := h
  refine ⟨hcoded, ?_⟩
  rw [hexec, storeInstr_eq]
  rfl

/-- A reading form, `g` being what its effect does to the CPU. -/
theorem Form.Runs.read {f : Form} {effect : Byte → State → State} {g : Byte → Cpu → Cpu}
    (h : f.Runs (readInstr f.opcode f.operand effect)) (heffect : ∀ m s, effect m s = { s with cpu := g m s.cpu })
    (hpc : ∀ m k, (g m k).pc = k.pc) (s : State) :
    f.coded ∧ exec f.instr s =
      .next { (readM f s).2 with cpu := { g (readM f s).1 s.cpu with pc := nextPc f s } } := by
  obtain ⟨hcoded, hexec⟩ := h
  refine ⟨hcoded, ?_⟩
  rw [hexec, readInstr_eq heffect hpc]
  rfl

/-- Settles O13: each form is a storing instruction, which writes its register at EA on the charged state. -/
theorem storeResults : Obligations.StoreResults := fun s b a =>
  ⟨fun f hf => (staForms_run b a f hf).store s, fun f hf => (stxForms_run b a f hf).store s,
    fun f hf => (styForms_run b a f hf).store s⟩

/-! ## The operand forms in numbers -/

theorem hiByte_toNat (w : Word) : (hiByte w).toNat = w.toNat / 256 := by
  have := w.isLt
  simp only [hiByte, BitVec.extractLsb'_toNat, Nat.shiftRight_eq_div_pow]
  omega

/-- The mask of a page keeps the high byte. -/
theorem and_pageMask (w : Word) : w &&& 0xFF00 = mkWord (hiByte w) 0 := by
  calc w &&& 0xFF00
      = (hiByte w ++ loByte w : Word) &&& (BitVec.allOnes 8 ++ 0#8 : Word) :=
        congrArg (· &&& 0xFF00#16) (mkWord_bytes w).symm
    _ = mkWord (hiByte w) 0 := by rw [BitVec.and_append, BitVec.and_allOnes, BitVec.and_zero]; rfl

theorem pageDiffers_eq (a b : Word) : pageDiffers a b = decide (a.toNat / 256 ≠ b.toNat / 256) := by
  have hpage : mkWord (hiByte a) 0 = mkWord (hiByte b) 0 ↔ a.toNat / 256 = b.toNat / 256 := by
    rw [← hiByte_toNat, ← hiByte_toNat, BitVec.toNat_inj]
    exact ⟨fun h => by simpa using congrArg hiByte h, fun h => by rw [h]⟩
  rw [pageDiffers, and_pageMask, and_pageMask, Bool.eq_iff_iff, bne_iff_ne, decide_eq_true_iff]
  exact not_congr hpage

/-- The pointer whose low byte stands in cell `p` of page 0, and its high byte in the next cell of the page (R16). -/
def pointerAt (s : State) (p : Nat) : Nat := 256 * (cellsRead s.ram ((p + 1) % 256)).toNat + (cellsRead s.ram p).toNat

/-- An operand's place with no index added to it. -/
def placeAt (s : State) (ea : Nat) : Resolved := { ea := BitVec.ofNat 16 ea, crossed := false, st := s }

/-- An operand's place at an index from a base. -/
def indexedAt (s : State) (base index : Nat) : Resolved :=
  { ea := BitVec.ofNat 16 ((base + index) % 65536)
    crossed := decide (base / 256 ≠ (base + index) % 65536 / 256)
    st := s }

theorem mkWord_cells_toNat (s : State) (p : Byte) :
    (mkWord (cellsRead s.ram (p + 1).toNat) (cellsRead s.ram p.toNat)).toNat = pointerAt s p.toNat := by
  rw [mkWord_toNat, Nat.mul_comm, BitVec.toNat_add]
  rfl

theorem word_placeAt (s : State) (w : Word) : ({ ea := w, crossed := false, st := s } : Resolved) = placeAt s w.toNat := by
  rw [placeAt, BitVec.ofNat_toNat, BitVec.setWidth_eq]

theorem zext16_placeAt (s : State) (b : Byte) :
    ({ ea := zext16 b, crossed := false, st := s } : Resolved) = placeAt s b.toNat := by
  rw [word_placeAt, zext16_toNat]

theorem word_indexedAt (s : State) (w : Word) (i : Byte) :
    ({ ea := w + zext16 i, crossed := pageDiffers w (w + zext16 i), st := s } : Resolved) = indexedAt s w.toNat i.toNat := by
  have hea : (w + zext16 i).toNat = (w.toNat + i.toNat) % 65536 := by rw [BitVec.toNat_add, zext16_toNat]
  rw [indexedAt, pageDiffers_eq, ← hea, BitVec.ofNat_toNat, BitVec.setWidth_eq]

theorem resolve_indx (b : Byte) (s : State) :
    resolve (.indx b) s = placeAt s (pointerAt s ((b.toNat + s.cpu.x.toNat) % 256)) := by
  simp only [resolve, read16zp_eq, word_placeAt, mkWord_cells_toNat]
  rw [BitVec.toNat_add]

theorem resolve_indy (b : Byte) (s : State) : resolve (.indy b) s = indexedAt s (pointerAt s b.toNat) s.cpu.y.toNat := by
  simp only [resolve, read16zp_eq, word_indexedAt, mkWord_cells_toNat]

/-! ## What the operand forms cost -/

theorem resolve_charge_crossed (o : Operand) (op : Byte) (s : State) :
    (resolve o (s.charge op)).crossed = (resolve o s).crossed := by
  cases o <;> simp [resolve, read16zp_eq]

theorem readOperand_cost (o : Operand) (s : State) : (readOperand o s).2.cost = s.cost + bitNat (resolve o s).crossed := by
  rw [readOperand_eq]
  split
  · rfl
  · exact busRead_cost _ _

theorem readInstr_cost (op : Byte) (o : Operand) {effect : Byte → State → State} (he : ∀ m, CpuOnly (effect m)) (s : State) :
    (readInstr op o effect s).cost = baseCost s.params op + bitNat (resolve o s).crossed := by
  simp only [readInstr, State.skip_cost, (he _).cost_eq, readOperand_cost, resolve_charge_crossed]
  rfl

theorem underClass_of_not_traps {op : Byte} {s : State} (h : classTraps s.params (opcodeClass op) = false)
    (body : State → State) : underClass (opcodeClass op) op body s = body s := by
  cases hclass : opcodeClass op with
  | unofficial =>
    rw [hclass, classTraps, Bool.not_eq_false'] at h
    rw [underClass, gated, if_pos h]
  | official | unstable | jam => rfl

theorem Form.Does.exec_of_not_traps {f : Form} {body : State → State} {s : State} (hdoes : f.Does body)
    (h : classTraps s.params (opcodeClass f.opcode) = false) : exec f.instr s = .next (body s) := by
  rw [hdoes s, underClass_of_not_traps h]

/-- A reading form pays one cycle more exactly when its operand crosses a page (R188). -/
theorem readForms_cost {s : State} {b : Byte} {a : Word} {f : Form} (hf : f ∈ readForms b a)
    (h : classTraps s.params (opcodeClass f.opcode) = false) :
    ∃ t, exec f.instr s = .next t ∧ t.cost = baseCost s.params f.opcode + bitNat (resolve f.operand s).crossed := by
  obtain ⟨effect, hdoes, heffect⟩ := readForms_does b a f hf
  exact ⟨_, hdoes.exec_of_not_traps h, readInstr_cost _ _ heffect s⟩

/-- A storing or a read-modify-write form pays its table cost (R188). -/
theorem storeForms_rmwForms_cost {s : State} {b : Byte} {a : Word} {f : Form} (hf : f ∈ storeForms b a ++ rmwForms b a)
    (h : classTraps s.params (opcodeClass f.opcode) = false) :
    ∃ t, exec f.instr s = .next t ∧ t.cost = baseCost s.params f.opcode := by
  obtain hstore | hrmw := List.mem_append.1 hf
  · obtain ⟨value, hdoes⟩ := storeForms_does b a f hstore
    exact ⟨_, hdoes.exec_of_not_traps h, storeInstr_cost _ _ value s⟩
  · obtain ⟨alu, combine, hdoes, hcombine⟩ := rmwForms_does b a f hrmw
    exact ⟨_, hdoes.exec_of_not_traps h, rmwInstr_cost _ _ alu hcombine s⟩

/-- Settles O12: each load is a reading instruction; the places are those of the operand forms' laws, and the costs those of the
three shapes. -/
theorem loadResults : Obligations.LoadResults := by
  intro s b a
  refine ⟨fun f hf => ?_, fun f hf => ?_, fun f hf => ?_, ?_, ?_, ?_, rfl, fun o ho => ?_,
    fun f hf htraps => readForms_cost hf htraps, fun f hf htraps => storeForms_rmwForms_cost hf htraps⟩
  · exact (ldaForms_run b a f hf).read (g := fun m k => { k with a := m, p := nzOf k.p m }) (fun _ _ => rfl)
      (fun _ _ => rfl) s
  · exact (ldxForms_run b a f hf).read (g := fun m k => { k with x := m, p := nzOf k.p m }) (fun _ _ => rfl)
      (fun _ _ => rfl) s
  · exact (ldyForms_run b a f hf).read (g := fun m k => { k with y := m, p := nzOf k.p m }) (fun _ _ => rfl)
      (fun _ _ => rfl) s
  · exact ⟨zext16_placeAt s b, (zext16_placeAt s _).trans (congrArg _ (BitVec.toNat_add _ _)),
      (zext16_placeAt s _).trans (congrArg _ (BitVec.toNat_add _ _)), word_placeAt s a, word_indexedAt s a _,
      word_indexedAt s a _, resolve_indx b s, resolve_indy b s⟩
  · simp [operandLength]
  · simp [operandLength]
  · rw [readOperand_eq]
    split
    · simp at ho
    · rfl

end Sys2Proof.Machine
end

section
/-! The stack instructions (R230 to R233): each is an implied instruction whose effect is one push or one pull. -/

namespace Sys2Proof.Machine

/-! ## The status byte -/

/-- The image PHP pushes has bits 5 and 4 set (R36, R231). -/
theorem statusImage_true (p : Flags) :
    statusImage p true =
      BitVec.ofBool p.n ++ BitVec.ofBool p.v ++ 0b11#2 ++ BitVec.ofBool p.d ++ BitVec.ofBool p.i ++ BitVec.ofBool p.z ++
        BitVec.ofBool p.c := by
  have hbits (x : BitVec 2) : x ++ 1#1 ++ 1#1 = x ++ 0b11#2 := BitVec.append_assoc
  rw [← hbits]
  rfl

/-! ## The four effects -/

theorem pushA_eq (s : State) :
    pushA s =
      { s with
        ram := cellsWrite s.ram (0x100 + s.cpu.s.toNat) s.cpu.a
        cpu := { s.cpu with s := s.cpu.s - 1 } } :=
  push_eq _ s

theorem pushP_eq (s : State) :
    pushP s =
      { s with
        ram := cellsWrite s.ram (0x100 + s.cpu.s.toNat)
          (BitVec.ofBool s.cpu.p.n ++ BitVec.ofBool s.cpu.p.v ++ 0b11#2 ++ BitVec.ofBool s.cpu.p.d ++
            BitVec.ofBool s.cpu.p.i ++ BitVec.ofBool s.cpu.p.z ++ BitVec.ofBool s.cpu.p.c)
        cpu := { s.cpu with s := s.cpu.s - 1 } } := by
  rw [pushP, push_eq, statusImage_true]

theorem pullA_eq (s : State) :
    pullA s =
      (let m := cellsRead s.ram (0x100 + (s.cpu.s + 1).toNat)
       { s with cpu := { s.cpu with a := m, s := s.cpu.s + 1, p := nzOf s.cpu.p m } }) := by
  rw [pullA, pull_eq]
  rfl

theorem pullP_eq (s : State) :
    pullP s =
      { s with cpu := { s.cpu with
          s := s.cpu.s + 1
          p := statusFlags (cellsRead s.ram (0x100 + (s.cpu.s + 1).toNat)) } } := by
  rw [pullP, pull_eq]
  rfl

/-! ## The instructions -/

/-- An implied instruction goes on one byte from what its effect makes of the charged state (R174). -/
theorem exec_implied_of_effect {i : Instr} {op : Byte} {effect : State → State} {s t : State}
    (hexec : exec i s = .next (impliedInstr op effect s)) (heffect : effect (s.charge op) = t) :
    exec i s = .next (t.skip 1) := by
  rw [hexec, impliedInstr, heffect]

/-- Settles O15: each instruction is an implied one, and its effect is one push or one pull of the charged state. -/
theorem stackInstructionResults : Obligations.StackInstructionResults := fun _ =>
  ⟨⟨rfl, rfl⟩, exec_implied_of_effect rfl (pushA_eq _), ⟨rfl, rfl⟩, exec_implied_of_effect rfl (pushP_eq _),
    ⟨rfl, rfl⟩, exec_implied_of_effect rfl (pullA_eq _), ⟨rfl, rfl⟩, exec_implied_of_effect rfl (pullP_eq _)⟩

end Sys2Proof.Machine
end

section
/-! Arithmetic and logic (R241 to R255): the flags of an add and a subtract in integers, and each family by its shape. -/

namespace Sys2Proof.Machine

/-! ## Add and subtract in integers -/

theorem byte_getLsbD_seven (b : Byte) : b.getLsbD 7 = decide (128 ≤ b.toNat) :=
  BitVec.getLsbD_last b

theorem bitNat_le_one (c : Bool) : bitNat c ≤ 1 := by
  cases c <;> decide

theorem bitNat_not (c : Bool) : bitNat (!c) = 1 - bitNat c := by
  cases c <;> rfl

theorem bit8_toNat (c : Bool) : (bit8 c).toNat = bitNat c := by
  cases c <;> rfl

theorem bit8_not (c : Bool) : bit8 (!c) = 1 - bit8 c := by
  cases c <;> rfl

/-- The sum's sign differs from the sign of both operands exactly when the signed sum lies outside a byte's range (R241). -/
theorem overflowBit_eq (a m r : Byte) {k : Nat} (hk : k ≤ 1) (hr : r.toNat = (a.toNat + m.toNat + k) % 256) :
    ((a ^^^ r) &&& (m ^^^ r)).getLsbD 7 = decide (a.toInt + m.toInt + k < -128 ∨ 127 < a.toInt + m.toInt + k) := by
  have := a.isLt
  have := m.isLt
  rw [BitVec.getLsbD_and, BitVec.getLsbD_xor, BitVec.getLsbD_xor, byte_getLsbD_seven, byte_getLsbD_seven,
    byte_getLsbD_seven, BitVec.toInt_eq_toNat_cond, BitVec.toInt_eq_toNat_cond, Bool.eq_iff_iff]
  simp only [Bool.and_eq_true, bne_iff_ne, ne_eq, decide_eq_decide, decide_eq_true_iff]
  omega

theorem adcFlags_eq_adcRule (p : Flags) (a m : Byte) : adcFlags p a m = adcRule p a m := by
  have hsum : BitVec.ofNat 8 (a.toNat + m.toNat + bitNat p.c) = a + m + bit8 p.c := by
    apply BitVec.eq_of_toNat_eq
    simp [bit8_toNat]
  have hoverflow := overflowBit_eq a m (a + m + bit8 p.c) (bitNat_le_one p.c) (by simp [bit8_toNat])
  simp only [adcFlags, adcRule, hsum, hoverflow]
  rfl

theorem byte_toInt_not (m : Byte) : (~~~m).toInt = -1 - m.toInt := by
  have := m.isLt
  rw [BitVec.toInt_eq_toNat_cond, BitVec.toInt_eq_toNat_cond, BitVec.toNat_not]
  omega

/-- Adding the complement with the carry is subtracting with the borrow (R242). -/
theorem adcRule_not_eq_sbcRule (p : Flags) (a m : Byte) : adcRule p a (~~~m) = sbcRule p a m := by
  have hborrow := bitNat_not p.c
  have hle := bitNat_le_one p.c
  have hm := m.isLt
  have hdiff : a + ~~~m + bit8 p.c = a - m - bit8 (!p.c) := by
    rw [bit8_not]
    bv_omega
  have hcarry : (256 ≤ a.toNat + (~~~m).toNat + bitNat p.c) ↔ m.toNat + bitNat (!p.c) ≤ a.toNat := by
    rw [BitVec.toNat_not]
    omega
  have hsigned : a.toInt + (~~~m).toInt + bitNat p.c = a.toInt - m.toInt - bitNat (!p.c) := by
    rw [byte_toInt_not]
    omega
  simp only [adcRule, sbcRule, hdiff, hcarry, hsigned]

theorem sbcFlags_eq_sbcRule (p : Flags) (a m : Byte) : sbcFlags p a m = sbcRule p a m := by
  rw [sbcFlags, adcFlags_eq_adcRule, ← adcRule_not_eq_sbcRule]
  exact congrArg (adcRule p a) BitVec.xor_allOnes

theorem addToA_eq (m : Byte) (s : State) :
    addToA m s =
      { s with cpu := { s.cpu with a := (adcRule s.cpu.p s.cpu.a m).1, p := (adcRule s.cpu.p s.cpu.a m).2 } } := by
  rw [addToA, adcFlags_eq_adcRule]
  rfl

theorem subFromA_eq (m : Byte) (s : State) :
    subFromA m s =
      { s with cpu := { s.cpu with a := (sbcRule s.cpu.p s.cpu.a m).1, p := (sbcRule s.cpu.p s.cpu.a m).2 } } := by
  rw [subFromA, sbcFlags_eq_sbcRule]
  rfl

/-! ## The families by their shape

The encoding line of each form and the work its instruction does are the model's own, read off by computation. -/

theorem arithmeticForms_run (b : Byte) (a : Word) :
    (∀ f ∈ adcForms b a, f.Runs (readInstr f.opcode f.operand addToA)) ∧
    (∀ f ∈ sbcForms b a, f.Runs (readInstr f.opcode f.operand subFromA)) := by
  simp only [adcForms, sbcForms, List.forall_mem_cons, List.not_mem_nil, false_imp_iff, implies_true, and_true]
  and_intros
  all_goals intros; rfl

theorem logicForms_run (b : Byte) (a : Word) :
    (∀ f ∈ andForms b a, f.Runs (readInstr f.opcode f.operand andA)) ∧
    (∀ f ∈ oraForms b a, f.Runs (readInstr f.opcode f.operand orA)) ∧
    (∀ f ∈ eorForms b a, f.Runs (readInstr f.opcode f.operand eorA)) := by
  simp only [andForms, oraForms, eorForms, List.forall_mem_cons, List.not_mem_nil, false_imp_iff, implies_true, and_true]
  and_intros
  all_goals intros; rfl

theorem compareForms_run (b : Byte) (a : Word) :
    (∀ f ∈ cmpForms b a, f.Runs (readInstr f.opcode f.operand compareA)) ∧
    (∀ f ∈ cpxForms b a, f.Runs (readInstr f.opcode f.operand compareX)) ∧
    (∀ f ∈ cpyForms b a, f.Runs (readInstr f.opcode f.operand compareY)) ∧
    (∀ f ∈ bitForms b a, f.Runs (readInstr f.opcode f.operand bitTest)) := by
  simp only [cmpForms, cpxForms, cpyForms, bitForms, List.forall_mem_cons, List.not_mem_nil, false_imp_iff, implies_true,
    and_true]
  and_intros
  all_goals intros; rfl

theorem incDecForms_run (b : Byte) (a : Word) :
    (∀ f ∈ incForms b a, f.Runs (rmwInstr f.opcode f.operand incFlags noCombine)) ∧
    (∀ f ∈ decForms b a, f.Runs (rmwInstr f.opcode f.operand decFlags noCombine)) := by
  simp only [incForms, decForms, List.forall_mem_cons, List.not_mem_nil, false_imp_iff, implies_true, and_true]
  and_intros
  all_goals intros; rfl

/-- An official read-modify-write form: one read at EA, one write of the result there, and the flags of the result. -/
theorem Form.Runs.rmw {f : Form} {alu : Flags → Byte → Byte × Flags}
    (h : f.Runs (rmwInstr f.opcode f.operand alu noCombine)) (s : State) :
    f.coded ∧ exec f.instr s =
      .next { rmwStored f (alu s.cpu.p (rmwM f s).1).1 s with
        cpu := { s.cpu with p := (alu s.cpu.p (rmwM f s).1).2, pc := nextPc f s } } := by
  obtain ⟨hcoded, hexec⟩ := h
  refine ⟨hcoded, ?_⟩
  rw [hexec, rmwInstr_eq (combine := noCombine) (g := fun _ k => k) (fun _ _ => rfl) (fun _ _ => rfl)]
  rfl

/-! ## The instructions -/

/-- Settles O16: each form reads its operand, and the effect computes the flags of `adcRule`. -/
theorem adcResults : Obligations.AdcResults := fun s b a f hf =>
  ((arithmeticForms_run b a).1 f hf).read
    (g := fun m k => { k with a := (adcRule k.p k.a m).1, p := (adcRule k.p k.a m).2 }) addToA_eq (fun _ _ => rfl) s

/-- Settles O17: each form reads its operand, and the add of its complement computes the flags of `sbcRule`. -/
theorem sbcResults : Obligations.SbcResults := fun s b a f hf =>
  ((arithmeticForms_run b a).2 f hf).read
    (g := fun m k => { k with a := (sbcRule k.p k.a m).1, p := (sbcRule k.p k.a m).2 }) subFromA_eq (fun _ _ => rfl) s

/-- Settles O18: each form reads its operand and sets A and NZ from the operation of its rule. -/
theorem logicResults : Obligations.LogicResults := by
  intro s b a
  obtain ⟨hand, hora, heor⟩ := logicForms_run b a
  refine ⟨fun f hf => ?_, fun f hf => ?_, fun f hf => ?_⟩
  · exact (hand f hf).read (g := fun m k => { k with a := k.a &&& m, p := nzOf k.p (k.a &&& m) }) (fun _ _ => rfl)
      (fun _ _ => rfl) s
  · exact (hora f hf).read (g := fun m k => { k with a := k.a ||| m, p := nzOf k.p (k.a ||| m) }) (fun _ _ => rfl)
      (fun _ _ => rfl) s
  · exact (heor f hf).read (g := fun m k => { k with a := k.a ^^^ m, p := nzOf k.p (k.a ^^^ m) }) (fun _ _ => rfl)
      (fun _ _ => rfl) s

/-- Settles O19: each form reads its operand and sets flags alone. -/
theorem compareResults : Obligations.CompareResults := by
  intro s b a
  obtain ⟨hcmp, hcpx, hcpy, hbit⟩ := compareForms_run b a
  refine ⟨fun f hf => ?_, fun f hf => ?_, fun f hf => ?_, fun f hf => ?_⟩
  · exact (hcmp f hf).read (g := fun m k => { k with p := cmpRule k.p k.a m }) (fun _ _ => rfl) (fun _ _ => rfl) s
  · exact (hcpx f hf).read (g := fun m k => { k with p := cmpRule k.p k.x m }) (fun _ _ => rfl) (fun _ _ => rfl) s
  · exact (hcpy f hf).read (g := fun m k => { k with p := cmpRule k.p k.y m }) (fun _ _ => rfl) (fun _ _ => rfl) s
  · exact (hbit f hf).read (g := fun m k => { k with p := bitFlags k.p k.a m }) (fun _ _ => rfl) (fun _ _ => rfl) s

/-- Settles O20: each form is an official read-modify-write instruction. -/
theorem memoryIncDecResults : Obligations.MemoryIncDecResults := by
  intro s b a
  obtain ⟨hinc, hdec⟩ := incDecForms_run b a
  exact ⟨fun f hf => (hinc f hf).rmw s, fun f hf => (hdec f hf).rmw s⟩

/-- Settles O21: each is an implied instruction whose effect gives the CPU of its rule. -/
theorem registerIncDecResults : Obligations.RegisterIncDecResults := fun _ =>
  ⟨⟨rfl, rfl⟩, exec_implied (effect := incX8) rfl rfl, ⟨rfl, rfl⟩, exec_implied (effect := incY8) rfl rfl,
    ⟨rfl, rfl⟩, exec_implied (effect := decX8) rfl rfl, ⟨rfl, rfl⟩, exec_implied (effect := decY8) rfl rfl⟩

end Sys2Proof.Machine
end

section
/-! Shifts and rotates (R290 to R293): each result bit by bit, and the A forms and the memory forms by their shape. -/

namespace Sys2Proof.Machine

/-! ## The results bit by bit -/

theorem byte_shiftLeft_one (m : Byte) : m <<< 1 = m.extractLsb' 0 7 ++ 0#1 :=
  BitVec.shiftLeft_eq_concat_of_lt (by decide)

theorem byte_ushiftRight_one (m : Byte) : m >>> 1 = 0#1 ++ m.extractLsb' 1 7 :=
  BitVec.ushiftRight_eq_extractLsb'_of_lt (by decide)

theorem bit8_eq_append (c : Bool) : bit8 c = 0#7 ++ BitVec.ofBool c := by
  cases c <;> rfl

theorem bit8_shiftLeft_seven (c : Bool) : bit8 c <<< 7 = BitVec.ofBool c ++ 0#7 := by
  cases c <;> rfl

/-- A rotate left puts the carry where the shift leaves a 0 (R292). -/
theorem byte_rotateLeft_carry (m : Byte) (c : Bool) : m <<< 1 ||| bit8 c = m.extractLsb' 0 7 ++ BitVec.ofBool c := by
  rw [byte_shiftLeft_one, bit8_eq_append, BitVec.or_append, BitVec.or_zero, BitVec.zero_or]

/-- A rotate right puts the carry where the shift leaves a 0 (R293). -/
theorem byte_rotateRight_carry (m : Byte) (c : Bool) : bit8 c <<< 7 ||| m >>> 1 = BitVec.ofBool c ++ m.extractLsb' 1 7 := by
  rw [byte_ushiftRight_one, bit8_shiftLeft_seven, BitVec.or_append, BitVec.or_zero, BitVec.zero_or]

/-- The result `r` with NZ from it, and `carry` in C. -/
def shiftRule (p : Flags) (carry : Bool) (r : Byte) : Byte × Flags := (r, nzOf { p with c := carry } r)

theorem aslFlags_eq (p : Flags) (m : Byte) : aslFlags p m = shiftRule p (m.getLsbD 7) (m.extractLsb' 0 7 ++ 0#1) := by
  rw [← byte_shiftLeft_one]
  rfl

theorem lsrFlags_eq (p : Flags) (m : Byte) : lsrFlags p m = shiftRule p (m.getLsbD 0) (0#1 ++ m.extractLsb' 1 7) := by
  rw [← byte_ushiftRight_one]
  rfl

theorem rolFlags_eq (p : Flags) (m : Byte) :
    rolFlags p m = shiftRule p (m.getLsbD 7) (m.extractLsb' 0 7 ++ BitVec.ofBool p.c) := by
  rw [← byte_rotateLeft_carry]
  rfl

theorem rorFlags_eq (p : Flags) (m : Byte) :
    rorFlags p m = shiftRule p (m.getLsbD 0) (BitVec.ofBool p.c ++ m.extractLsb' 1 7) := by
  rw [← byte_rotateRight_carry]
  rfl

/-! ## The families by their shape -/

theorem shiftForms_run (b : Byte) (a : Word) :
    (∀ f ∈ aslForms b a, f.Runs (rmwInstr f.opcode f.operand aslFlags noCombine)) ∧
    (∀ f ∈ lsrForms b a, f.Runs (rmwInstr f.opcode f.operand lsrFlags noCombine)) ∧
    (∀ f ∈ rolForms b a, f.Runs (rmwInstr f.opcode f.operand rolFlags noCombine)) ∧
    (∀ f ∈ rorForms b a, f.Runs (rmwInstr f.opcode f.operand rorFlags noCombine)) := by
  simp only [aslForms, lsrForms, rolForms, rorForms, List.forall_mem_cons, List.not_mem_nil, false_imp_iff, implies_true,
    and_true]
  and_intros
  all_goals intros; rfl

/-- A shift of A, `carry` and `r` being what its rule gives (R175). -/
theorem exec_acc_of_shiftRule {i : Instr} {op : Byte} {alu : Flags → Byte → Byte × Flags} {s : State} {carry : Bool}
    {r : Byte}
    (hexec : exec i s = .next (accInstr op alu s)) (halu : alu s.cpu.p s.cpu.a = shiftRule s.cpu.p carry r) :
    exec i s = .next { s.charge op with
      cpu := { s.cpu with a := r, p := nzOf { s.cpu.p with c := carry } r, pc := s.cpu.pc + 1 } } := by
  rw [hexec, accInstr, charge_cpu, halu]
  rfl

/-- A shift of memory, `carry` and `r` being what its rule gives. -/
theorem Form.Runs.shift {f : Form} {alu : Flags → Byte → Byte × Flags} {s : State} {carry : Bool} {r : Byte}
    (h : f.Runs (rmwInstr f.opcode f.operand alu noCombine))
    (halu : alu s.cpu.p (rmwM f s).1 = shiftRule s.cpu.p carry r) :
    f.coded ∧ exec f.instr s =
      .next { rmwStored f r s with
        cpu := { s.cpu with p := nzOf { s.cpu.p with c := carry } r, pc := nextPc f s } } := by
  have hrmw := h.rmw s
  rwa [halu] at hrmw

/-- Settles O22: each form of A shifts A, each form of memory is an official read-modify-write instruction, and their results
are those of the rule bit by bit. -/
theorem shiftResults : Obligations.ShiftResults := by
  intro s b a
  obtain ⟨hasl, hlsr, hrol, hror⟩ := shiftForms_run b a
  refine ⟨⟨⟨rfl, rfl⟩, ?_, ⟨rfl, rfl⟩, ?_, ⟨rfl, rfl⟩, ?_, ⟨rfl, rfl⟩, ?_⟩, ?_, ?_, ?_, ?_⟩
  · exact exec_acc_of_shiftRule rfl (aslFlags_eq _ _)
  · exact exec_acc_of_shiftRule rfl (lsrFlags_eq _ _)
  · exact exec_acc_of_shiftRule rfl (rolFlags_eq _ _)
  · exact exec_acc_of_shiftRule rfl (rorFlags_eq _ _)
  · exact fun f hf => (hasl f hf).shift (aslFlags_eq _ _)
  · exact fun f hf => (hlsr f hf).shift (lsrFlags_eq _ _)
  · exact fun f hf => (hrol f hf).shift (rolFlags_eq _ _)
  · exact fun f hf => (hror f hf).shift (rorFlags_eq _ _)

end Sys2Proof.Machine
end

section
/-! Branches, jumps, calls, BRK and the returns (R300 to R314): each instruction as one update of the state, from the laws of the
stack, of the vectors and of taking and leaving an exception. -/

namespace Sys2Proof.Machine

/-! ## Branches -/

/-- A taken branch costs one cycle more, and another one when the target lies on another page (R300). -/
theorem one_add_bitNat_pageDiffers (a b : Word) :
    1 + bitNat (pageDiffers a b) = if a &&& 0xFF00 = b &&& 0xFF00 then 1 else 2 := by
  simp only [pageDiffers, bitNat, bne_iff_ne, ne_eq, ite_not]
  split
  · rfl
  · rfl

theorem branchInstr_eq (op b : Byte) (cond : Bool) (s : State) :
    branchInstr op b cond s =
      (let pcn := s.cpu.pc + 2
       let target := pcn + b.signExtend 16
       { s with
         cost := baseCost s.params op + (if cond = true then (if pcn &&& 0xFF00 = target &&& 0xFF00 then 1 else 2) else 0)
         cpu := { s.cpu with pc := if cond = true then target else pcn } }) := by
  cases cond with
  | false => rfl
  | true =>
    simp only [← one_add_bitNat_pageDiffers, if_true]
    rfl

/-- Settles O23: each of the eight is the shared branch on the flag its rule names. -/
theorem branchResults : Obligations.BranchResults := by
  intro s b
  simp only [List.forall_mem_cons, List.not_mem_nil, false_imp_iff, implies_true, and_true]
  refine ⟨?_, ?_, ?_, ?_, ?_, ?_, ?_, ?_⟩
  all_goals exact ⟨⟨rfl, rfl⟩, congrArg Host.Outcome.next (branchInstr_eq _ b _ s)⟩

/-! ## Jumps, calls and returns -/

/-- The mask of a place in a page keeps the low byte. -/
theorem and_placeMask (w : Word) : w &&& 0x00FF = mkWord 0 (loByte w) := by
  calc w &&& 0x00FF
      = (hiByte w ++ loByte w : Word) &&& (0#8 ++ BitVec.allOnes 8 : Word) :=
        congrArg (· &&& 0x00FF#16) (mkWord_bytes w).symm
    _ = mkWord 0 (loByte w) := by rw [BitVec.and_append, BitVec.and_allOnes, BitVec.and_zero]; rfl

theorem loByte_toNat (w : Word) : (loByte w).toNat = w.toNat % 256 := by
  simp [loByte, BitVec.extractLsb'_toNat]

/-- The second byte of an indirect jump's pointer: the next one, but the first of the page after its last (R184). -/
theorem mkWord_hiByte_loByte_succ (a : Word) :
    mkWord (hiByte a) (loByte a + 1) = if a &&& 0x00FF = 0x00FF then a - 0xFF else a + 1 := by
  have hlast : a &&& 0x00FF = 0x00FF ↔ a.toNat % 256 = 255 := by
    rw [and_placeMask, ← BitVec.toNat_inj, mkWord_toNat, loByte_toNat]
    simp
  have hnext : (mkWord (hiByte a) (loByte a + 1)).toNat = a.toNat / 256 * 256 + (a.toNat % 256 + 1) % 256 := by
    rw [mkWord_toNat, BitVec.toNat_add, hiByte_toNat, loByte_toNat]
    rfl
  apply BitVec.eq_of_toNat_eq
  simp only [hnext, hlast]
  split
  · bv_omega
  · bv_omega

theorem jumpIndirect_eq (op : Byte) (a : Word) (s : State) :
    jumpIndirect op a s =
      (let lo := busRead a (s.charge op)
       let hi := busRead (if a &&& 0x00FF = 0x00FF then a - 0xFF else a + 1) lo.2
       { hi.2 with cpu := { s.cpu with pc := hi.1 ++ lo.1 } }) := by
  simp only [jumpIndirect, readIndirect, mkWord_hiByte_loByte_succ, State.setPc, busRead_cpu, charge_cpu]
  rfl

theorem callSub_eq (op : Byte) (a : Word) (s : State) :
    callSub op a s =
      { s.charge op with
        ram := cellsWrite (cellsWrite s.ram (0x100 + s.cpu.s.toNat) (hiByte (s.cpu.pc + 2)))
          (0x100 + (s.cpu.s - 1).toNat) (loByte (s.cpu.pc + 2))
        cpu := { s.cpu with s := s.cpu.s - 2, pc := a } } := by
  simp only [callSub, pushWord_eq, BitVec.sub_sub]
  rfl

theorem returnSub_eq (op : Byte) (s : State) :
    returnSub op s =
      { s.charge op with
        cpu := { s.cpu with
          s := s.cpu.s + 2
          pc := (cellsRead s.ram (0x100 + (s.cpu.s + 2).toNat) ++ cellsRead s.ram (0x100 + (s.cpu.s + 1).toNat)) + 1 } } := by
  simp only [returnSub, pullWord_eq, BitVec.add_assoc]
  rfl

/-- Settles O24, by the equation of each of the four. -/
theorem jumpCallReturnResults : Obligations.JumpCallReturnResults := fun s a =>
  ⟨⟨rfl, rfl⟩, rfl, ⟨⟨rfl, rfl⟩, congrArg Host.Outcome.next (jumpIndirect_eq _ a s)⟩,
    ⟨rfl, rfl⟩, congrArg Host.Outcome.next (callSub_eq _ a s), ⟨rfl, rfl⟩, congrArg Host.Outcome.next (returnSub_eq _ s)⟩

/-! ## BRK and RTI -/

/-- What an exception entry stores: three neighbouring cells of the stack page, the last one at S - 2 (R313, R715). -/
theorem cellsRead_takeException {vec : Word} (h : 0x8000 ≤ vec.toNat) (h1 : 0x8000 ≤ (vec + 1).toNat) {s : State}
    (hram : Memory.wf s.ram = true) (ret : Word) (b : Bool) :
    cellsRead (takeException ret b vec s).ram (0x100 + s.cpu.s.toNat) = hiByte ret ∧
    cellsRead (takeException ret b vec s).ram (0x100 + (s.cpu.s - 1).toNat) = loByte ret ∧
    cellsRead (takeException ret b vec s).ram (0x100 + (s.cpu.s - 2).toNat) = statusImage s.cpu.p b := by
  have hsp : s.cpu.s - 1 - 1 = s.cpu.s - 2 := BitVec.sub_sub _ _ _
  have h01 : 0x100 + s.cpu.s.toNat ≠ 0x100 + (s.cpu.s - 1).toNat := by bv_omega
  have h02 : 0x100 + s.cpu.s.toNat ≠ 0x100 + (s.cpu.s - 2).toNat := by bv_omega
  have h12 : 0x100 + (s.cpu.s - 1).toNat ≠ 0x100 + (s.cpu.s - 2).toNat := by bv_omega
  rw [takeException_eq h h1, hsp]
  have hhi := cellsWrite_wf hram (0x100 + s.cpu.s.toNat) (hiByte ret)
  have hlo := cellsWrite_wf hhi (0x100 + (s.cpu.s - 1).toNat) (loByte ret)
  simp only [cellsRead_cellsWrite hlo, cellsRead_cellsWrite hhi, cellsRead_cellsWrite hram, h01, h02, h12, if_true, if_false,
    and_self]

/-- The address 0x0100 + S reaches the stack cell S names (R33). -/
theorem peek_stack (s : State) (sp : Byte) : peek s (0x0100 + sp.setWidth 16) = some (cellsRead s.ram (0x100 + sp.toNat)) := by
  have hsp := sp.isLt
  have haddr : (0x0100 + sp.setWidth 16 : Word).toNat = 0x100 + sp.toNat := by bv_omega
  rw [peek, haddr, if_pos (by omega), Nat.mod_eq_of_lt (by omega)]

/-- BRK in one update of all but the stack's bytes, for which see `cellsRead_takeException` (R313). -/
theorem softwareInterrupt_eq (op : Byte) (s : State) :
    softwareInterrupt op s =
      { s.charge op with
        ram := (softwareInterrupt op s).ram
        cpu := { s.cpu with
          s := s.cpu.s - 3, p := { s.cpu.p with i := true }, pc := prgByte s 0xFFFF ++ prgByte s 0xFFFE } } := by
  simp only [softwareInterrupt, takeException_eq (vec := irqVector) (by decide) (by decide), BitVec.sub_sub]
  rfl

/-- Settles O25: the cells by what an exception entry stores, the other bytes by the frame of BRK, the rest by its equation. -/
theorem brkResult : Obligations.BrkResult := by
  intro s hram
  obtain ⟨hhi, hlo, hp⟩ := cellsRead_takeException (vec := irqVector) (by decide) (by decide) (s := s.charge 0x00) hram
    (s.cpu.pc + 2) true
  have heq := softwareInterrupt_eq 0x00 s
  have hcpu := congrArg State.cpu heq
  refine ⟨⟨rfl, rfl⟩, softwareInterrupt 0x00 s, rfl, hcpu, ?_, ?_, ?_, ?_, ?_⟩
  · exact (peek_stack _ _).trans (congrArg some hhi)
  · exact (peek_stack _ _).trans (congrArg some hlo)
  · exact (peek_stack _ _).trans (congrArg some (hp.trans (statusImage_true _)))
  · intro a ha
    exact frameOfMemory .brk s _ rfl a (by simpa [storesTo] using ha)
  · rw [hcpu]
    exact heq

theorem interruptReturn_eq (op : Byte) (s : State) :
    interruptReturn op s =
      { s.charge op with
        cpu := { s.cpu with
          s := s.cpu.s + 3
          p := statusFlags (cellsRead s.ram (0x100 + (s.cpu.s + 1).toNat))
          pc := cellsRead s.ram (0x100 + (s.cpu.s + 3).toNat) ++ cellsRead s.ram (0x100 + (s.cpu.s + 2).toNat) } } := by
  simp only [interruptReturn, returnFromException_eq, BitVec.add_assoc]
  rfl

/-- Settles O26, by the equation of RTI. -/
theorem rtiResult : Obligations.RtiResult := fun s =>
  ⟨⟨rfl, rfl⟩, congrArg Host.Outcome.next (interruptReturn_eq _ s)⟩

end Sys2Proof.Machine
end

section
/-! Flag instructions and the official NOP (R340 to R347). -/

namespace Sys2Proof.Machine

/-- Settles O27: each is an implied instruction; the effect of the seven sets its one flag, that of NOP gives the state back. -/
theorem flagInstructionResults : Obligations.FlagInstructionResults := fun _ =>
  ⟨⟨rfl, rfl⟩, exec_implied (effect := clearC) rfl rfl, ⟨rfl, rfl⟩, exec_implied (effect := setC) rfl rfl,
    ⟨rfl, rfl⟩, exec_implied (effect := clearI) rfl rfl, ⟨rfl, rfl⟩, exec_implied (effect := setI) rfl rfl,
    ⟨rfl, rfl⟩, exec_implied (effect := clearD) rfl rfl, ⟨rfl, rfl⟩, exec_implied (effect := setD) rfl rfl,
    ⟨rfl, rfl⟩, exec_implied (effect := clearV) rfl rfl, ⟨rfl, rfl⟩, exec_implied (effect := noEffect) rfl rfl⟩

end Sys2Proof.Machine
end

section
/-! The unofficial instructions (R360 to R381): each stable one does the work of its shape behind the gate, and every one whose
opcode traps records its fault alone. -/

namespace Sys2Proof.Machine

/-! ## Opcodes that trap -/

theorem exec_of_traps {i : Instr} {op : Byte} {s : State} (hhead : (encode i).head? = some op)
    (htraps : classTraps s.params (opcodeClass op) = true) : exec i s = .next (raiseUnimplemented op s) := by
  obtain ⟨t, hexec, op', rest, hi, houtcome⟩ := exec_outcome i s
  obtain rfl : op' = op := by simpa [hi] using hhead
  obtain ⟨_, rfl⟩ | ⟨hnot, _⟩ := houtcome
  · exact hexec
  · exact absurd (htraps.symm.trans hnot) (by decide)

/-- A state with a recorded fault is stuck by that fault's name (R46, R705). -/
theorem step_raiseUnimplemented (op : Byte) (s : State) :
    step (raiseUnimplemented op s) = .fault (.unimplementedOpcode s.cpu.pc op) := rfl

theorem gatedInstrs_unofficial (b : Byte) (a : Word) :
    ∀ x ∈ gatedInstrs b a, (encode x.1).head? = some x.2 ∧ opcodeClass x.2 = .unofficial := by
  simp only [gatedInstrs, List.forall_mem_append, List.forall_mem_cons, List.not_mem_nil, false_imp_iff, implies_true, and_true]
  and_intros
  all_goals rfl

theorem faultingInstrs_trap (b : Byte) (a : Word) (par : Params) :
    ∀ x ∈ faultingInstrs b a, (encode x.1).head? = some x.2 ∧ classTraps par (opcodeClass x.2) = true := by
  simp only [faultingInstrs, List.forall_mem_cons, List.not_mem_nil, false_imp_iff, implies_true, and_true]
  and_intros
  all_goals rfl

/-- Settles O32: with the gate off the class of each opcode traps, and the state it leaves is stuck. -/
theorem gateOffRaisesUnimplementedOpcode : Obligations.GateOffRaisesUnimplementedOpcode := by
  intro s b a hoff x hx
  obtain ⟨hhead, hclass⟩ := gatedInstrs_unofficial b a x hx
  have htraps : classTraps s.params (opcodeClass x.2) = true := by rw [hclass, classTraps, hoff, Bool.not_false]
  exact ⟨hhead, exec_of_traps hhead htraps, step_raiseUnimplemented x.2 s⟩

/-- Settles O33: the class of each opcode traps whatever the parameters are, and the state it leaves is stuck. -/
theorem jamAndUnstableOpcodesRaise : Obligations.JamAndUnstableOpcodesRaise := by
  intro s b a x hx
  obtain ⟨hhead, htraps⟩ := faultingInstrs_trap b a s.params x hx
  exact ⟨hhead, exec_of_traps hhead htraps, step_raiseUnimplemented x.2 s⟩

/-! ## The gate -/

theorem exec_of_gate_on {i : Instr} {op : Byte} {body : State → State} {s t : State}
    (hexec : exec i s = .next (gated op body s)) (hon : s.params.unofficialEnabled = true) (hbody : body s = t) :
    exec i s = .next t := by
  rw [hexec, gated, if_pos hon, hbody]

theorem exec_of_gate_off {i : Instr} {op : Byte} {body : State → State} {s : State}
    (hexec : exec i s = .next (gated op body s)) (hoff : s.params.unofficialEnabled = false) :
    exec i s = .next (raiseUnimplemented op s) := by
  rw [hexec, gated, hoff, if_neg Bool.false_ne_true]

/-- The form has its encoding line, and its instruction does the work that `body` gives behind the gate (R360). -/
def Form.RunsGated (f : Form) (body : State → State) : Prop := f.Runs (gated f.opcode body)

theorem Form.RunsGated.on {f : Form} {body : State → State} (h : f.RunsGated body) {s t : State}
    (hon : s.params.unofficialEnabled = true) (hbody : body s = t) : f.coded ∧ exec f.instr s = .next t :=
  ⟨h.1, exec_of_gate_on (h.2 s) hon hbody⟩

/-- A reading form behind the open gate, `g` being what its effect does to the CPU. -/
theorem Form.RunsGated.read {f : Form} {effect : Byte → State → State} {g : Byte → Cpu → Cpu}
    (h : f.RunsGated (readInstr f.opcode f.operand effect)) (heffect : ∀ m s, effect m s = { s with cpu := g m s.cpu })
    (hpc : ∀ m k, (g m k).pc = k.pc) {s : State} (hon : s.params.unofficialEnabled = true) :
    f.coded ∧ exec f.instr s =
      .next { (readM f s).2 with cpu := { g (readM f s).1 s.cpu with pc := nextPc f s } } :=
  h.on hon (readInstr_eq heffect hpc _ _ s)

/-- A read-modify-write form behind the open gate, `g` being what its combination does to the CPU once `alu` has set the
flags (R363). -/
theorem Form.RunsGated.rmw {f : Form} {alu : Flags → Byte → Byte × Flags} {combine : Byte → State → State}
    {g : Byte → Cpu → Cpu}
    (h : f.RunsGated (rmwInstr f.opcode f.operand alu combine)) (hcombine : ∀ r s, combine r s = { s with cpu := g r s.cpu })
    (hpc : ∀ r k, (g r k).pc = k.pc) {s : State} (hon : s.params.unofficialEnabled = true) :
    f.coded ∧ exec f.instr s =
      (let res := alu s.cpu.p (rmwM f s).1
       .next { rmwStored f res.1 s with cpu := { g res.1 { s.cpu with p := res.2 } with pc := nextPc f s } }) :=
  h.on hon (rmwInstr_eq hcombine hpc _ _ alu s)

/-- Every form of a family behind the closed gate. -/
theorem exec_forms_of_gate_off {fs : List Form} {body : Form → State → State} (h : ∀ f ∈ fs, f.RunsGated (body f)) {s : State}
    (hoff : s.params.unofficialEnabled = false) :
    ∀ f ∈ fs, exec f.instr s = .next (raiseUnimplemented f.opcode s) :=
  fun f hf => exec_of_gate_off ((h f hf).2 s) hoff

/-! ## NOPs, SAX and LAX -/

theorem nopImplied_run : ∀ x ∈ nopImplied,
    coded x.1 x.2 [] 2 ∧ ∀ s, exec x.1 s = .next (gated x.2 (impliedInstr x.2 noEffect) s) := by
  simp only [nopImplied, List.forall_mem_cons, List.not_mem_nil, false_imp_iff, implies_true, and_true]
  and_intros
  all_goals intros; rfl

theorem nopReadForms_run (b : Byte) (a : Word) :
    ∀ f ∈ nopReadForms b a, f.RunsGated (readInstr f.opcode f.operand discard) := by
  simp only [nopReadForms, List.forall_mem_cons, List.not_mem_nil, false_imp_iff, implies_true, and_true]
  and_intros
  all_goals intros; rfl

theorem saxLaxForms_run (b : Byte) (a : Word) :
    (∀ f ∈ saxForms b a, f.RunsGated (storeInstr f.opcode f.operand saxValue)) ∧
    (∀ f ∈ laxForms b a, f.RunsGated (readInstr f.opcode f.operand loadAX)) := by
  simp only [saxForms, laxForms, List.forall_mem_cons, List.not_mem_nil, false_imp_iff, implies_true, and_true]
  and_intros
  all_goals intros; rfl

/-- Settles O28: behind the gate a form without an operand has no effect, and one with an operand reads it and discards it. -/
theorem unofficialNopResults : Obligations.UnofficialNopResults := by
  intro s b a
  refine ⟨fun hon => ⟨fun x hx => ?_, fun f hf => ?_⟩, fun hoff => List.forall_mem_append.2 ⟨fun x hx => ?_, ?_⟩⟩
  · obtain ⟨hcoded, hexec⟩ := nopImplied_run x hx
    exact ⟨hcoded, exec_of_gate_on (hexec s) hon rfl⟩
  · exact (nopReadForms_run b a f hf).read (g := fun _ k => k) (fun _ _ => rfl) (fun _ _ => rfl) hon
  · exact exec_of_gate_off ((nopImplied_run x hx).2 s) hoff
  · exact List.forall_mem_map.2 (exec_forms_of_gate_off (nopReadForms_run b a) hoff)

/-- Settles O30: behind the gate SAX is a storing instruction, and LAX a reading one that loads A and X. -/
theorem saxLaxResults : Obligations.SaxLaxResults := by
  intro s b a
  obtain ⟨hsax, hlax⟩ := saxLaxForms_run b a
  refine ⟨fun hon => ⟨fun f hf => (hsax f hf).on hon (storeInstr_eq _ _ saxValue s), fun f hf => ?_⟩,
    fun hoff => List.forall_mem_append.2 ⟨exec_forms_of_gate_off hsax hoff, exec_forms_of_gate_off hlax hoff⟩⟩
  exact (hlax f hf).read (g := fun m k => { k with a := m, x := m, p := nzOf k.p m }) (fun _ _ => rfl) (fun _ _ => rfl) hon

/-! ## The combined read-modify-write instructions -/

theorem combinedForms_run (b : Byte) (a : Word) :
    (∀ f ∈ sloForms b a, f.RunsGated (rmwInstr f.opcode f.operand aslFlags orA)) ∧
    (∀ f ∈ rlaForms b a, f.RunsGated (rmwInstr f.opcode f.operand rolFlags andA)) ∧
    (∀ f ∈ sreForms b a, f.RunsGated (rmwInstr f.opcode f.operand lsrFlags eorA)) ∧
    (∀ f ∈ rraForms b a, f.RunsGated (rmwInstr f.opcode f.operand rorFlags addToA)) ∧
    (∀ f ∈ dcpForms b a, f.RunsGated (rmwInstr f.opcode f.operand decFlags compareA)) ∧
    (∀ f ∈ iscForms b a, f.RunsGated (rmwInstr f.opcode f.operand incFlags subFromA)) := by
  simp only [sloForms, rlaForms, sreForms, rraForms, dcpForms, iscForms, List.forall_mem_cons, List.not_mem_nil,
    false_imp_iff, implies_true, and_true]
  and_intros
  all_goals intros; rfl

/-- Settles O29: behind the gate each form is a read-modify-write instruction, whose combination reads the carry its operation
left and replaces the N and Z it left. -/
theorem unofficialReadModifyWriteResults : Obligations.UnofficialReadModifyWriteResults := by
  intro s b a
  obtain ⟨hslo, hrla, hsre, hrra, hdcp, hisc⟩ := combinedForms_run b a
  refine ⟨fun hon => ⟨fun f hf => ?_, fun f hf => ?_, fun f hf => ?_, fun f hf => ?_, fun f hf => ?_, fun f hf => ?_⟩,
    fun hoff => ?_⟩
  · exact (hslo f hf).rmw (g := fun r k => { k with a := k.a ||| r, p := nzOf k.p (k.a ||| r) }) (fun _ _ => rfl)
      (fun _ _ => rfl) hon
  · exact (hrla f hf).rmw (g := fun r k => { k with a := k.a &&& r, p := nzOf k.p (k.a &&& r) }) (fun _ _ => rfl)
      (fun _ _ => rfl) hon
  · exact (hsre f hf).rmw (g := fun r k => { k with a := k.a ^^^ r, p := nzOf k.p (k.a ^^^ r) }) (fun _ _ => rfl)
      (fun _ _ => rfl) hon
  · exact (hrra f hf).rmw (g := fun r k => { k with a := (adcRule k.p k.a r).1, p := (adcRule k.p k.a r).2 }) addToA_eq
      (fun _ _ => rfl) hon
  · exact (hdcp f hf).rmw (g := fun r k => { k with p := cmpRule k.p k.a r }) (fun _ _ => rfl) (fun _ _ => rfl) hon
  · exact (hisc f hf).rmw (g := fun r k => { k with a := (sbcRule k.p k.a r).1, p := (sbcRule k.p k.a r).2 }) subFromA_eq
      (fun _ _ => rfl) hon
  · simp only [List.forall_mem_append]
    exact ⟨⟨⟨⟨⟨exec_forms_of_gate_off hslo hoff, exec_forms_of_gate_off hrla hoff⟩, exec_forms_of_gate_off hsre hoff⟩,
      exec_forms_of_gate_off hrra hoff⟩, exec_forms_of_gate_off hdcp hoff⟩, exec_forms_of_gate_off hisc hoff⟩

/-! ## The immediate instructions -/

/-- An immediate instruction behind the gate, `t` being what its effect makes of the charged state (R176, R360). -/
theorem exec_immediate_of_gate_on {i : Instr} {op b : Byte} {effect : Byte → State → State} {s t : State}
    (hexec : exec i s = .next (gated op (readInstr op (.imm b) effect) s)) (hon : s.params.unofficialEnabled = true)
    (heffect : effect b (s.charge op) = t) : exec i s = .next (t.skip 2) :=
  exec_of_gate_on hexec hon (congrArg (State.skip · 2) heffect)

/-- Settles O31: behind the gate each is a reading instruction with an immediate operand, and its effect gives the CPU of its
rule. -/
theorem unofficialImmediateResults : Obligations.UnofficialImmediateResults := by
  intro s b
  refine ⟨fun hon => ⟨⟨?_, ⟨rfl, rfl⟩, ?_, ⟨rfl, rfl⟩, ?_⟩, ⟨⟨rfl, rfl⟩, ?_⟩, ⟨rfl, rfl⟩, ?_⟩, fun hoff => ?_⟩
  · simp only [List.forall_mem_cons, List.not_mem_nil, false_imp_iff, implies_true, and_true]
    exact ⟨⟨⟨rfl, rfl⟩, exec_immediate_of_gate_on (effect := ancA) rfl hon rfl⟩,
      ⟨rfl, rfl⟩, exec_immediate_of_gate_on (effect := ancA) rfl hon rfl⟩
  · exact exec_immediate_of_gate_on (effect := alrA) rfl hon rfl
  · exact exec_immediate_of_gate_on (effect := arrA) rfl hon rfl
  · exact exec_immediate_of_gate_on (effect := axsX) rfl hon rfl
  · exact exec_immediate_of_gate_on (effect := subFromA) rfl hon (subFromA_eq b _)
  · simp only [ancForms, alrForms, arrForms, axsForms, sbcCopyForms, List.forall_mem_append, List.forall_mem_cons,
      List.not_mem_nil, false_imp_iff, implies_true, and_true]
    and_intros
    all_goals exact exec_of_gate_off rfl hoff

end Sys2Proof.Machine
end

section
/-! The outcome of a step by its state (R650, R651): stuck by name, the fault of a trapping opcode, or the instruction whose bytes
stand at PC and then what `finish` does. -/

namespace Sys2Proof.Machine

/-! ## Stuck states -/

/-- Settles O7: each guard of a step is looked at in this order. -/
theorem stuckStatesStopByName : Obligations.StuckStatesStopByName := by
  refine ⟨fun s f hfault => ?_, fun s hfault hbound => ?_, fun s hfault hbound hrunning => ?_⟩
  · simp only [step, hfault]
  · simp [step, hfault, hbound]
  · simp [step, hfault, hbound, hrunning]

/-! ## Fetch and decode -/

theorem opcodeLength_of_decode {op : Byte} {rest : List Byte} {i : Instr} (h : decode (op :: rest) = .ok (i, [])) :
    opcodeLength op = 1 + rest.length ∧ i = decodeWith op rest := by
  obtain hshort | hle := Nat.lt_or_ge (1 + rest.length) (opcodeLength op)
  · cases (decode_short hshort).symm.trans h
  · obtain ⟨hlength, hdecode⟩ := decode_of_length_le hle
    obtain ⟨rfl, hdrop⟩ := Prod.mk.inj (Except.ok.inj (hdecode.symm.trans h))
    have htake : rest.take (opcodeLength op - 1) = rest := List.take_of_length_le (List.drop_eq_nil_iff.1 hdrop)
    rw [htake] at hlength ⊢
    exact ⟨hlength, rfl⟩

/-- An opcode that traps is fetched alone (R189). -/
theorem fetch_of_traps {s : State} {op : Byte} (hop : peek s s.cpu.pc = some op)
    (htraps : classTraps s.params (opcodeClass op) = true) : fetch s = (decodeOp op 0 0, s) := by
  simp only [fetch, busRead_of_peek hop, htraps, if_true]

/-- The bytes of an instruction, where they are stored, are fetched without a side effect (R115, R170). -/
theorem fetch_of_bytesAt {s : State} {op : Byte} {bs : List Byte} (hbytes : bytesAt s s.cpu.pc (op :: bs))
    (hlength : opcodeLength op = 1 + bs.length) (hnot : classTraps s.params (opcodeClass op) = false) :
    fetch s = (decodeWith op bs, s) := by
  have hle := (opcodeLength_bounds op).2
  obtain ⟨hop, hrest⟩ := hbytes
  simp only [fetch, busRead_of_peek hop, hnot, Bool.false_eq_true, if_false]
  match bs with
  | [] => rw [hlength]; rfl
  | [b1] =>
    rw [hlength]
    simp only [List.length_singleton, busRead_of_peek hrest.1]
    rfl
  | [b1, b2] =>
    have hb2 : peek s (s.cpu.pc + 2) = some b2 := by
      rw [← hrest.2.1, BitVec.add_assoc]
      rfl
    rw [hlength]
    simp only [List.length_cons, List.length_nil, busRead_of_peek hrest.1, busRead_of_peek hb2]
    rfl
  | _ :: _ :: _ :: _ => simp only [List.length_cons] at hlength; omega

/-! ## A step -/

theorem step_of_exec {s t u : State} {i : Instr} (henabled : s.enabled) (hfetch : fetch (clearLocals s) = (i, u))
    (hexec : exec i u = .next t) : step s = .next (finish t) := by
  obtain ⟨hfault, hbound, hrunning⟩ := henabled
  simp [step, hfault, hbound, hrunning, hfetch, hexec]

/-- Clearing the step-local fields moves no stored byte. -/
theorem bytesAt_clearLocals {s : State} : ∀ {bs : List Byte} {a : Word}, bytesAt s a bs → bytesAt (clearLocals s) a bs
  | [], _, _ => trivial
  | _ :: _, _, ⟨hhead, htail⟩ => ⟨hhead, bytesAt_clearLocals htail⟩

/-- Settles O5: the fetch finds the stored bytes and leaves PC, and every instruction answers a next state. -/
theorem stepRunsDecodedInstruction : Obligations.StepRunsDecodedInstruction := by
  intro s op rest i henabled hbytes hnot hdecode
  obtain ⟨hlength, rfl⟩ := opcodeLength_of_decode hdecode
  have hfetch := fetch_of_bytesAt (s := clearLocals s) (bytesAt_clearLocals hbytes) hlength hnot
  obtain ⟨t, hexec⟩ := everyInstructionAnswersNext (decodeWith op rest) (clearLocals s)
  rw [hexec]
  exact step_of_exec henabled hfetch hexec

/-- Settles O6: the opcode is fetched alone, its instruction records the fault, and after a fault nothing follows. -/
theorem trappingOpcodeRecordsTheFault : Obligations.TrappingOpcodeRecordsTheFault := by
  intro s op henabled hop htraps
  have hfetch := fetch_of_traps (s := clearLocals s) hop htraps
  have hhead : (encode (decodeOp op 0 0)).head? = some op := by rw [decodeOp, opcodeRow_encodes op 0 0]; rfl
  exact step_of_exec henabled hfetch (exec_of_traps hhead htraps)

/-! ## The end of a step -/

/-- The check at the end of a step: an NMI first, else an IRQ that is not masked (R650, R712, R713). -/
theorem checkInterrupts_eq (s : State) :
    checkInterrupts s =
      if s.nmiPending = true then takeInterrupt .nmi s
      else if (s.apu.frame.irqFlag = true ∨ s.apu.dmc.irqFlag = true) ∧ s.cpu.p.i = false then takeInterrupt .irq s
      else s := by
  have hline : (irqLine s && !s.cpu.p.i) = true ↔
      (s.apu.frame.irqFlag = true ∨ s.apu.dmc.irqFlag = true) ∧ s.cpu.p.i = false := by simp [irqLine, mapperIrq]
  simp only [checkInterrupts, pendingInterrupt, hline]
  by_cases hnmi : s.nmiPending = true
  · simp only [if_pos hnmi]
  · by_cases hirq : (s.apu.frame.irqFlag = true ∨ s.apu.dmc.irqFlag = true) ∧ s.cpu.p.i = false
    · simp only [if_neg hnmi, if_pos hirq]
    · simp only [if_neg hnmi, if_neg hirq]

/-- Settles O8: without a fault `finish` runs the devices and then makes the check. -/
theorem instructionEndRunsDevicesThenChecksInterrupts : Obligations.InstructionEndRunsDevicesThenChecksInterrupts := by
  intro t hfault
  have hrun : ¬ t.fault.isSome = true := by simp [hfault]
  rw [finish, if_neg hrun, checkInterrupts_eq]
  rfl

/-- Settles O60, each range by evaluating its counter at reset. -/
theorem resetMeetsTheInvariants : Obligations.ResetMeetsTheInvariants := by
  have hppu : State.reset.ppu.Ranges := ⟨by decide, by decide, by decide⟩
  have hapu : State.reset.apu.Ranges :=
    ⟨by decide, by decide, by decide, by decide, by decide, by decide, by decide, by decide⟩
  exact ⟨reset_storage, ⟨hppu, hapu⟩, rfl, rfl, rfl, rfl⟩

end Sys2Proof.Machine
end

section
/-! Interrupt entry and the return from it (R715, R716). -/

namespace Sys2Proof.Machine

/-- The status byte an interrupt pushes: bit 5 set, bit 4 clear (R36, R715). -/
theorem statusImage_false (p : Flags) :
    statusImage p false =
      BitVec.ofBool p.n ++ BitVec.ofBool p.v ++ 0b10#2 ++ BitVec.ofBool p.d ++ BitVec.ofBool p.i ++ BitVec.ofBool p.z ++
        BitVec.ofBool p.c := by
  have hbits (x : BitVec 2) : x ++ 1#1 ++ 0#1 = x ++ 0b10#2 := BitVec.append_assoc
  rw [← hbits]
  rfl

/-- The NMI latch after an entry: the NMI's own clears it (R715). -/
def latchAfterEntry (k : Interrupt) (s : State) : Bool :=
  match k with
  | .nmi => false
  | .irq => s.nmiPending

theorem interruptVector_range (k : Interrupt) :
    0x8000 ≤ (interruptVector k).toNat ∧ 0x8000 ≤ (interruptVector k + 1).toNat := by
  cases k <;> decide

theorem enterInterrupt_eq_takeException (k : Interrupt) (s : State) :
    enterInterrupt k s =
      takeException s.cpu.pc false (interruptVector k) { s with nmiPending := latchAfterEntry k s } := by
  cases k <;> rfl

/-- An entry in one update of all but the stack's bytes, for which see `cellsRead_enterInterrupt` (R715). -/
theorem enterInterrupt_eq (k : Interrupt) (s : State) :
    enterInterrupt k s =
      { s with
        ram := (enterInterrupt k s).ram
        nmiPending := latchAfterEntry k s
        cpu := { s.cpu with
          s := s.cpu.s - 3, p := { s.cpu.p with i := true }, pc := vectorWord s (interruptVector k) } } := by
  obtain ⟨hlow, hhigh⟩ := interruptVector_range k
  simp only [enterInterrupt_eq_takeException, takeException_eq hlow hhigh, BitVec.sub_sub]
  rfl

theorem cellsRead_enterInterrupt (k : Interrupt) {s : State} (hram : Memory.wf s.ram = true) :
    cellsRead (enterInterrupt k s).ram (0x100 + s.cpu.s.toNat) = hiByte s.cpu.pc ∧
    cellsRead (enterInterrupt k s).ram (0x100 + (s.cpu.s - 1).toNat) = loByte s.cpu.pc ∧
    cellsRead (enterInterrupt k s).ram (0x100 + (s.cpu.s - 2).toNat) = statusImage s.cpu.p false := by
  obtain ⟨hlow, hhigh⟩ := interruptVector_range k
  rw [enterInterrupt_eq_takeException]
  exact cellsRead_takeException hlow hhigh (s := { s with nmiPending := latchAfterEntry k s }) hram s.cpu.pc false

/-- Of the registers and flags an entry writes S, PC and I, and of the stored bytes the three cells it pushes to. -/
theorem takeException_leavesAlone (ret : Word) (b : Bool) (vec : Word) (s : State) :
    LeavesAlone [.s] [.i] [stackAddr s.cpu.s, stackAddr (s.cpu.s - 1), stackAddr (s.cpu.s - 2)] s
      (takeException ret b vec s) := by
  have hsp (w : Word) : (pushWord w s).cpu.s = s.cpu.s - 2 := by simp only [pushWord, push_cpu_s, BitVec.sub_sub]; rfl
  exact (((((leavesAlone_refl s).pushWord (by decide) (by simp) (by simp) _).push (by decide) (by simp [hsp]) _).setP
    rfl).read16 _).setPc _

theorem peek_enterInterrupt_of_ne (k : Interrupt) {s : State} {a : Word}
    (h : ∀ j ∈ [s.cpu.s, s.cpu.s - 1, s.cpu.s - 2], sameStore (stackAddr j) a = false) :
    peek (enterInterrupt k s) a = peek s a := by
  obtain ⟨_, hbytes⟩ := takeException_leavesAlone s.cpu.pc false (interruptVector k)
    { s with nmiPending := latchAfterEntry k s }
  rw [enterInterrupt_eq_takeException, hbytes a (by simpa using h)]
  rfl

/-- Settles O42: the cells by what an exception entry stores,
the other bytes by what an entry leaves alone, the rest by its equation. -/
theorem interruptEntry : Obligations.InterruptEntry := by
  intro k s hram
  obtain ⟨hhi, hlo, hp⟩ := cellsRead_enterInterrupt k hram
  have heq := enterInterrupt_eq k s
  have hcpu := congrArg State.cpu heq
  have hnmi := congrArg State.nmiPending heq
  refine ⟨?_, ?_, ?_, ?_, fun a ha => peek_enterInterrupt_of_ne k ha, ?_, ?_⟩
  · rw [hcpu]
    cases k <;> rfl
  · exact (peek_stack _ _).trans (congrArg some hhi)
  · exact (peek_stack _ _).trans (congrArg some hlo)
  · exact (peek_stack _ _).trans (congrArg some (hp.trans (statusImage_false _)))
  · rw [hnmi]
    cases k <;> rfl
  · rw [hcpu, hnmi]
    exact heq

/-- Settles O43: the three pulls of RTI find the three bytes the entry pushed, and it changed no other register. -/
theorem rtiUndoesAnEntry : Obligations.RtiUndoesAnEntry := by
  intro k s hram
  obtain ⟨hhi, hlo, hp⟩ := cellsRead_enterInterrupt k hram
  have hcpu := congrArg State.cpu (enterInterrupt_eq k s)
  have h1 : s.cpu.s - 3 + 1 = s.cpu.s - 2 := by bv_omega
  have h2 : s.cpu.s - 3 + 2 = s.cpu.s - 1 := by bv_omega
  have h3 : s.cpu.s - 3 + 3 = s.cpu.s := BitVec.sub_add_cancel _ _
  refine ⟨_, congrArg Host.Outcome.next (interruptReturn_eq 0x40 (enterInterrupt k s)), ?_⟩
  simp only [hcpu, h1, h2, h3, hhi, hlo, hp, statusFlags_statusImage]
  rw [← mkWord, mkWord_bytes]

end Sys2Proof.Machine
end

section
/-! The stalls of the DMC reader (R551 to R553, R557, R653): a full buffer empties only when its eight bits are out, so of the fetches
after the first any two lie at least 432 ticks apart, and draining the stalls comes to an end (log 10). -/

namespace Sys2Proof.Machine

/-! ## The output unit -/

theorem dmcRates_le (i : BitVec 4) : 54 ≤ (dmcRates.getD i.toNat 0).toNat :=
  (by decide : ∀ j : Fin 16, 54 ≤ (dmcRates.getD j.1 0).toNat) ⟨i.toNat, i.isLt⟩

/-- What a tick does to the timer, the bits left and the buffer (R551, R552): it counts down, or puts out a bit that is not the
last one, or puts out the last bit, which takes the buffered byte. -/
theorem dmcTimer_cases {c : Dmc} (hc : DmcRanges c) :
    ((dmcTimer c).timer.toNat + 1 = c.timer.toNat ∧ (dmcTimer c).bitsLeft = c.bitsLeft ∧
      (dmcTimer c).bufferFull = c.bufferFull) ∨
    (c.timer.toNat = 1 ∧ 54 ≤ (dmcTimer c).timer.toNat ∧ (dmcTimer c).bitsLeft.toNat + 1 = c.bitsLeft.toNat ∧
      (dmcTimer c).bufferFull = c.bufferFull) ∨
    (c.timer.toNat = 1 ∧ c.bitsLeft.toNat = 1 ∧ 54 ≤ (dmcTimer c).timer.toNat ∧ (dmcTimer c).bitsLeft = 8 ∧
      (dmcTimer c).bufferFull = false) := by
  have hrate := dmcRates_le c.rateIdx
  have htimer := hc.timerLow
  have hbits := hc.bitsLow
  by_cases hcount : c.timer.toNat ≤ 1
  · have hone : c.timer.toNat = 1 := by omega
    by_cases hlast : c.bitsLeft - 1 = 0
    · refine .inr (.inr ⟨hone, by bv_omega, ?_⟩)
      simp only [dmcTimer, hcount, if_true, dmcOutputClock, hlast, beq_self_eq_true]
      split
      · exact ⟨hrate, rfl, rfl⟩
      · next hempty => exact ⟨hrate, rfl, by simpa using hempty⟩
    · refine .inr (.inl ⟨hone, ?_⟩)
      simp only [dmcTimer, hcount, if_true, dmcOutputClock, beq_iff_eq, hlast, if_false]
      exact ⟨hrate, by bv_omega, trivial⟩
  · left
    simp only [dmcTimer, hcount, if_false, and_true]
    bv_omega

@[simp] theorem dmcTimer_remaining (c : Dmc) : (dmcTimer c).remaining = c.remaining := by
  unfold dmcTimer dmcOutputClock
  simp only
  repeat' split
  all_goals rfl

/-- No fetch before tick `g`: no byte is left, or the buffer is full and at least `g` ticks go by until its byte is taken, each bit
but the first needing at least 54 (R551, R552). -/
def DmcQuiet (g : Nat) (c : Dmc) : Prop :=
  c.remaining = 0 ∨ c.bufferFull = true ∧ g ≤ c.timer.toNat + 54 * (c.bitsLeft.toNat - 1)

theorem DmcQuiet.mono {g h : Nat} {c : Dmc} (hquiet : DmcQuiet h c) (hle : g ≤ h) : DmcQuiet g c :=
  hquiet.imp_right fun ⟨hfull, hgap⟩ => ⟨hfull, Nat.le_trans hle hgap⟩

theorem DmcQuiet.not_wants {g : Nat} {c : Dmc} (hquiet : DmcQuiet g c) : dmcWants c = false := by
  obtain hnone | ⟨hfull, _⟩ := hquiet
  · simp [dmcWants, hnone]
  · simp [dmcWants, hfull]

theorem dmcQuiet_of_not_wants {c : Dmc} (hc : DmcRanges c) (h : dmcWants c = false) : DmcQuiet 1 c := by
  have htimer := hc.timerLow
  by_cases hnone : c.remaining = 0
  · exact .inl hnone
  · refine .inr ⟨?_, by omega⟩
    cases hfull : c.bufferFull with
    | true => rfl
    | false => exact absurd (by simpa [dmcWants, hfull] using h) hnone

/-- A tick with the fetch farther away brings it one nearer. -/
theorem dmcTimer_quiet {g : Nat} {c : Dmc} (hc : DmcRanges c) (hg : 1 ≤ g) (hquiet : DmcQuiet (g + 1) c) :
    DmcQuiet g (dmcTimer c) := by
  obtain hnone | ⟨hfull, hgap⟩ := hquiet
  · exact .inl ((dmcTimer_remaining c).trans hnone)
  · have hbits := hc.bitsLow
    obtain ⟨htimer, hb, hf⟩ | ⟨htimer, hrate, hb, hf⟩ | ⟨htimer, hlast, _⟩ := dmcTimer_cases hc
    · exact .inr ⟨hf.trans hfull, by rw [hb]; omega⟩
    · exact .inr ⟨hf.trans hfull, by omega⟩
    · omega

/-- The reader wants a byte after a tick that found the buffer full only when that tick took the buffered byte: its eight bits have
then all to go out. -/
theorem gap_of_dmcTimer_wants {c : Dmc} (hc : DmcRanges c) (hquiet : DmcQuiet 1 c) (hwants : dmcWants (dmcTimer c) = true) :
    432 ≤ (dmcTimer c).timer.toNat + 54 * ((dmcTimer c).bitsLeft.toNat - 1) := by
  simp only [dmcWants, Bool.and_eq_true, Bool.not_eq_true', bne_iff_ne, dmcTimer_remaining] at hwants
  obtain ⟨hempty, hleft⟩ := hwants
  obtain hnone | ⟨hfull, _⟩ := hquiet
  · exact absurd hnone hleft
  · obtain ⟨_, _, hf⟩ | ⟨_, _, _, hf⟩ | ⟨_, _, hrate, hb, _⟩ := dmcTimer_cases hc
    · simp [hf, hfull] at hempty
    · simp [hf, hfull] at hempty
    · rw [hb]
      exact Nat.add_le_add_right hrate (54 * 7)

/-- A fetch fills the buffer and leaves the output unit alone (R557, R558). -/
theorem dmcFetched_outputUnit (b : Byte) (c : Dmc) :
    (dmcFetched b c).bufferFull = true ∧ (dmcFetched b c).timer = c.timer ∧ (dmcFetched b c).bitsLeft = c.bitsLeft := by
  unfold dmcFetched restartSample
  simp only
  repeat' split
  all_goals exact ⟨rfl, rfl, rfl⟩

/-! ## Ticks -/

@[simp] theorem frameTick_dmc (a : Apu) : (frameTick a).dmc = a.dmc := by
  unfold frameTick frameTick4 frameTick5
  simp only
  repeat' split
  all_goals rfl

@[simp] theorem apuClock_dmc (k : Nat) (a : Apu) : (apuClock k a).dmc = dmcTimer a.dmc := by
  unfold apuClock pulseTimers
  simp only
  split
  · exact congrArg dmcTimer (frameTick_dmc a)
  · exact congrArg dmcTimer (frameTick_dmc a)

/-- A tick makes no fetch, or the one fetch its output unit lets the reader want (R501, R557). -/
theorem apuTick_cases {s : State} (hs : s.Ranges) (k : Nat) :
    (dmcWants (dmcTimer s.apu.dmc) = false ∧ (apuTick k s).apu.dmc = dmcTimer s.apu.dmc ∧
      (apuTick k s).stallPending = s.stallPending) ∨
    (dmcWants (dmcTimer s.apu.dmc) = true ∧ (∃ b, (apuTick k s).apu.dmc = dmcFetched b (dmcTimer s.apu.dmc)) ∧
      (apuTick k s).stallPending = s.stallPending + s.params.dmcStallCycles.val) := by
  have hclock : State.Ranges { s with apu := apuClock k s.apu } := ⟨hs.1, apuClock_ranges hs.2 k⟩
  cases hwants : dmcWants (dmcTimer s.apu.dmc) with
  | false =>
    have hsame : apuTick k s = { s with apu := apuClock k s.apu } := by
      simp only [apuTick, dmcReader, apuClock_dmc, hwants, Bool.false_eq_true, if_false]
    exact .inl ⟨rfl, by rw [hsame, apuClock_dmc], by rw [hsame]⟩
  | true =>
    have hfetch := dmcReader_eq hclock (by rw [apuClock_dmc, hwants])
    simp only [apuClock_dmc] at hfetch
    exact .inr ⟨rfl, ⟨_, by rw [apuTick, hfetch]⟩, by rw [apuTick, hfetch]⟩

/-- After any tick the reader waits (R557), and at most one fetch was made. -/
theorem apuTick_quiet {s : State} (hs : s.Ranges) (k : Nat) :
    DmcQuiet 1 (apuTick k s).apu.dmc ∧ (apuTick k s).stallPending ≤ s.stallPending + 4 := by
  have hdmc := dmcRanges_of (apuTick_ranges hs k).2
  have hstall := s.params.dmcStallCycles.isLt
  obtain ⟨hwants, hd, hp⟩ | ⟨_, ⟨b, hd⟩, hp⟩ := apuTick_cases hs k
  · exact ⟨dmcQuiet_of_not_wants hdmc (by rw [hd, hwants]), by omega⟩
  · exact ⟨dmcQuiet_of_not_wants hdmc (by rw [hd, dmcWants, (dmcFetched_outputUnit b _).1]; rfl), by omega⟩

/-- `n` ticks lead from `s`, where the reader waits for `g` ticks, to `t`, where it waits for some `h`, with `f` fetches among them,
each of which takes 432 ticks of waiting. -/
def FetchBudget (n g : Nat) (s t : State) : Prop :=
  ∃ f h, 1 ≤ h ∧ h ≤ 432 ∧ DmcQuiet h t.apu.dmc ∧ 432 * f + g ≤ n + h ∧
    t.stallPending = s.stallPending + s.params.dmcStallCycles.val * f

theorem apuTick_budget {s : State} {g : Nat} (hs : s.Ranges) (hpos : 1 ≤ g) (hle : g ≤ 432) (hquiet : DmcQuiet g s.apu.dmc)
    (k : Nat) : FetchBudget 1 g s (apuTick k s) := by
  have hdmc := dmcRanges_of hs.2
  by_cases hnear : g = 1
  · subst hnear
    obtain ⟨_, _, hp⟩ | ⟨hwants, ⟨b, hd⟩, hp⟩ := apuTick_cases hs k
    · exact ⟨0, 1, by omega, by omega, (apuTick_quiet hs k).1, by omega, hp⟩
    · obtain ⟨hfull, htimer, hbits⟩ := dmcFetched_outputUnit b (dmcTimer s.apu.dmc)
      have hgap := gap_of_dmcTimer_wants hdmc hquiet hwants
      refine ⟨1, 432, by omega, by omega, .inr ?_, by omega, by rw [hp, Nat.mul_one]⟩
      rw [hd, hfull, htimer, hbits]
      exact ⟨rfl, hgap⟩
  · have hfar : DmcQuiet (g - 1) (dmcTimer s.apu.dmc) := dmcTimer_quiet hdmc (by omega) (hquiet.mono (by omega))
    obtain ⟨_, hd, hp⟩ | ⟨hwants, _⟩ := apuTick_cases hs k
    · exact ⟨0, g - 1, by omega, by omega, hd ▸ hfar, by omega, hp⟩
    · exact absurd (hfar.not_wants.symm.trans hwants) (by decide)

theorem apuTicks_budget {s : State} {n g : Nat} (hs : s.Ranges) (hpos : 1 ≤ g) (hle : g ≤ 432) (hquiet : DmcQuiet g s.apu.dmc)
    (k : Nat) : FetchBudget n g s (apuTicks n k s) := by
  induction n generalizing s g k with
  | zero => exact ⟨0, g, hpos, hle, hquiet, by omega, rfl⟩
  | succ n ih =>
    obtain ⟨f, g', hpos', hle', hquiet', hcount, hasked⟩ := apuTick_budget hs hpos hle hquiet k
    obtain ⟨f', h, hposh, hleh, hquieth, hcount', hasked'⟩ := ih (apuTick_ranges hs k) hpos' hle' hquiet' (k + 1)
    obtain ⟨-, -, -, -, -, -, hparams, -⟩ := apuTick_keeps k s
    refine ⟨f + f', h, hposh, hleh, hquieth, by omega, ?_⟩
    rw [apuTicks, hasked', hasked, hparams, Nat.mul_add, Nat.add_assoc]

/-! ## Draining -/

/-- All that dots can do to the state. -/
theorem iterate_ppuTick_frame : ∀ (n : Nat) (s : State),
    iterate ppuTick n s =
      { s with ppu := (iterate ppuTick n s).ppu, nmiPending := (iterate ppuTick n s).nmiPending }
  | 0, _ => rfl
  | n + 1, s => iterate_ppuTick_frame n (ppuTick s)

/-- A round of a drain: its cycles are no longer asked for, and the devices run for them (R653). -/
def drainRound (s : State) : State := advance s.stallPending { s with stallPending := 0 }

theorem drainRound_ranges {s : State} (hs : s.Ranges) : (drainRound s).Ranges :=
  ((Evolves.start.locals s.cost s.dmaCycles 0).advance s.stallPending).ranges hs

theorem drainRounds_of_no_stall {s : State} (h : s.stallPending = 0) (fuel : Nat) :
    (drainRounds fuel s).stallPending = 0 := by
  cases fuel with
  | zero => exact h
  | succ fuel => simp [drainRounds, h]

theorem drainRounds_of_round {fuel : Nat} {s : State}
    (h : (drainRounds fuel (drainRound s)).stallPending = 0) : (drainRounds (fuel + 1) s).stallPending = 0 := by
  rw [drainRounds]
  split
  · next hzero => simpa using hzero
  · exact h

/-- The ticks of a round, on a state whose dots have run. -/
theorem drainRound_ticks {s : State} (hs : s.Ranges) :
    ∃ k u, u.Ranges ∧ u.apu = s.apu ∧ u.stallPending = 0 ∧
      drainRound s = (apuTicks s.stallPending k u).addCycles s.stallPending := by
  have hframe := iterate_ppuTick_frame (3 * s.stallPending) { s with stallPending := 0 }
  have hapu := congrArg State.apu hframe
  have hstall := congrArg State.stallPending hframe
  exact ⟨s.cpuCycles, iterate ppuTick (3 * s.stallPending) { s with stallPending := 0 },
    ((Evolves.start.locals s.cost s.dmaCycles 0).dots (3 * s.stallPending)).ranges hs, hapu, hstall, rfl⟩

/-- What a round asks for anew, the reader waiting at its start. -/
theorem drainRound_of_quiet {s : State} {g : Nat} (hs : s.Ranges) (hpos : 1 ≤ g) (hle : g ≤ 432) (hquiet : DmcQuiet g s.apu.dmc) :
    ∃ f h, h ≤ 432 ∧ DmcQuiet h (drainRound s).apu.dmc ∧ 432 * f + g ≤ s.stallPending + h ∧
      (drainRound s).stallPending ≤ 4 * f := by
  obtain ⟨k, u, hu, hapu, hzero, hround⟩ := drainRound_ticks hs
  obtain ⟨f, h, _, hh, hquiet', hcount, hasked⟩ := apuTicks_budget (n := s.stallPending) hu hpos hle (hapu ▸ hquiet) k
  have hstall : u.params.dmcStallCycles.val * f ≤ 4 * f := Nat.mul_le_mul_right f (Nat.le_of_lt_succ u.params.dmcStallCycles.isLt)
  rw [hround, State.addCycles_apu, State.addCycles_stallPending]
  exact ⟨f, h, hh, hquiet', hcount, by omega⟩

/-- What a round asks for anew, its first tick possibly filling an empty buffer. -/
theorem drainRound_of_ranges {s : State} (hs : s.Ranges) (hpos : 1 ≤ s.stallPending) :
    ∃ f h, 1 ≤ h ∧ h ≤ 432 ∧ DmcQuiet h (drainRound s).apu.dmc ∧ 432 * f + 2 ≤ s.stallPending + h ∧
      (drainRound s).stallPending ≤ 4 + 4 * f := by
  obtain ⟨k, u, hu, hapu, hzero, hround⟩ := drainRound_ticks hs
  obtain ⟨n, hn⟩ : ∃ n, s.stallPending = n + 1 := ⟨s.stallPending - 1, by omega⟩
  obtain ⟨hquiet, hfirst⟩ := apuTick_quiet hu k
  obtain ⟨f, h, hpos', hh, hquiet', hcount, hasked⟩ :=
    apuTicks_budget (n := n) (apuTick_ranges hu k) (Nat.le_refl 1) (by decide) hquiet (k + 1)
  have hstall : (apuTick k u).params.dmcStallCycles.val * f ≤ 4 * f :=
    Nat.mul_le_mul_right f (Nat.le_of_lt_succ (apuTick k u).params.dmcStallCycles.isLt)
  rw [hround, State.addCycles_apu, State.addCycles_stallPending, hn, apuTicks]
  exact ⟨f, h, hpos', hh, hquiet', by omega, by omega⟩

/-- One more round ends the drain when it is shorter than the wait of the reader. -/
theorem drainRounds_far {fuel : Nat} {s : State} (hs : s.Ranges) (hquiet : DmcQuiet 9 s.apu.dmc) (hle : s.stallPending ≤ 8) :
    (drainRounds (fuel + 1) s).stallPending = 0 := by
  obtain ⟨f, h, hh, _, hcount, hasked⟩ := drainRound_of_quiet hs (by decide) (by decide) hquiet
  exact drainRounds_of_round (drainRounds_of_no_stall (by omega) fuel)

/-- Two more rounds end it when the first is no longer than one fetch asks for. -/
theorem drainRounds_near {fuel : Nat} {s : State} (hs : s.Ranges) (hquiet : DmcQuiet 1 s.apu.dmc) (hle : s.stallPending ≤ 4) :
    (drainRounds (fuel + 2) s).stallPending = 0 := by
  obtain ⟨f, h, hh, hquiet', hcount, hasked⟩ := drainRound_of_quiet hs (by decide) (by decide) hquiet
  refine drainRounds_of_round ?_
  obtain rfl | rfl : f = 0 ∨ f = 1 := by omega
  · exact drainRounds_of_no_stall (by omega) (fuel + 1)
  · exact drainRounds_far (drainRound_ranges hs) (hquiet'.mono (by omega)) (by omega)

/-- A drain of `n` cycles ends within `n + 2` rounds: one of at least 9 cycles asks for fewer than it had, one of at most 8 is
followed by two more. -/
theorem drainRounds_stallPending {fuel : Nat} {s : State} (hs : s.Ranges) (hfuel : s.stallPending + 2 ≤ fuel) :
    (drainRounds fuel s).stallPending = 0 := by
  induction fuel generalizing s with
  | zero => omega
  | succ fuel ih =>
    by_cases hzero : s.stallPending = 0
    · exact drainRounds_of_no_stall hzero (fuel + 1)
    refine drainRounds_of_round ?_
    have hnext := drainRound_ranges hs
    obtain ⟨f, h, hpos, hh, hquiet, hcount, hasked⟩ := drainRound_of_ranges hs (by omega)
    by_cases hlong : 9 ≤ s.stallPending
    · exact ih hnext (by omega)
    · obtain ⟨k, hk⟩ : ∃ k, fuel = k + 2 := ⟨fuel - 2, by omega⟩
      rw [hk]
      obtain rfl | rfl : f = 0 ∨ f = 1 := by omega
      · exact drainRounds_near hnext (hquiet.mono hpos) (by omega)
      · exact drainRounds_far hnext (hquiet.mono (by omega)) (by omega)

/-- Settles O10: the rounds `drainStalls` has are as many as the drain can need. -/
theorem drainLeavesNoStall : Obligations.DrainLeavesNoStall :=
  fun _ hs => drainRounds_stallPending hs (Nat.le_refl _)

end Sys2Proof.Machine
end

section
/-! The PPU's registers through their mirrors (R410 to R420, R141, R452): each access of the window is the register's own, and the
masks and shifts of the address registers are fields put together. -/

namespace Sys2Proof.Machine

/-! ## The window -/

theorem busRead_ppuWindow {a : Word} (hlo : 0x2000 ≤ a.toNat) (hhi : a.toNat < 0x4000) (s : State) :
    busRead a s = ppuRegRead (a.toNat % 8) s :=
  (if_neg (Nat.not_lt.2 hlo)).trans (if_pos hhi)

theorem busWrite_ppuWindow {a : Word} (hlo : 0x2000 ≤ a.toNat) (hhi : a.toNat < 0x4000) (d : Byte) (s : State) :
    busWrite a d s = ppuRegWrite (a.toNat % 8) d s :=
  (if_neg (Nat.not_lt.2 hlo)).trans (if_pos hhi)

section
variable {n r : Nat} (hn : n < 1024) (hr : r < 8)
include hn hr

theorem ppuMirror_toNat : (ppuMirror n r).toNat = 0x2000 + 8 * n + r := by
  rw [ppuMirror, BitVec.toNat_ofNat, Nat.mod_eq_of_lt (by omega)]

theorem ppuMirror_toNat_mod : (ppuMirror n r).toNat % 8 = r := by
  rw [ppuMirror_toNat hn hr]
  omega

theorem busRead_ppuMirror (s : State) : busRead (ppuMirror n r) s = ppuRegRead r s := by
  have haddr := ppuMirror_toNat hn hr
  rw [busRead_ppuWindow (by omega) (by omega), ppuMirror_toNat_mod hn hr]

theorem busWrite_ppuMirror (d : Byte) (s : State) : busWrite (ppuMirror n r) d s = ppuRegWrite r d s := by
  have haddr := ppuMirror_toNat hn hr
  rw [busWrite_ppuWindow (by omega) (by omega), ppuMirror_toNat_mod hn hr]

end

/-! ## PPUSTATUS -/

/-- A byte of three bits over the low five of another, bit by bit. -/
theorem getLsbD_threeBits_append (b7 b6 b5 : Bool) (x : Byte) :
    let r : Byte := BitVec.ofBool b7 ++ BitVec.ofBool b6 ++ BitVec.ofBool b5 ++ x.extractLsb' 0 5
    r.getLsbD 7 = b7 ∧ r.getLsbD 6 = b6 ∧ r.getLsbD 5 = b5 ∧ ∀ i, i < 5 → r.getLsbD i = x.getLsbD i := by
  simp only [BitVec.getLsbD_append, BitVec.getLsbD_extractLsb']
  refine ⟨by simp, by simp, by simp, fun i hi => ?_⟩
  simp [hi]

/-- Settles O44: register 2 of the window is PPUSTATUS, whose read is one draw and two cleared bits. -/
theorem statusReadClearsVblankAndToggle : Obligations.StatusReadClearsVblankAndToggle := by
  intro s a hlo hhi hmod
  obtain ⟨h7, h6, h5, hopen⟩ :=
    getLsbD_threeBits_append s.ppu.vblank s.ppu.spr0Hit s.ppu.sprOverflow (Config.openBus s.draws)
  rw [busRead_ppuWindow hlo hhi, hmod]
  exact ⟨h7, h6, h5, hopen, rfl⟩

/-! ## The fields of the address registers -/

theorem forall_lt_fifteen {p : Nat → Prop} :
    (∀ i, i < 15 → p i) ↔
      p 0 ∧ p 1 ∧ p 2 ∧ p 3 ∧ p 4 ∧ p 5 ∧ p 6 ∧ p 7 ∧ p 8 ∧ p 9 ∧ p 10 ∧ p 11 ∧ p 12 ∧ p 13 ∧ p 14 := by
  simp only [Nat.forall_lt_succ_right, Nat.not_lt_zero, false_implies, implies_true, true_and, and_assoc]

section
variable (t : BitVec 15) (d : Byte)

theorem ctrl_fields : (t &&& 0x73FF) ||| ((d &&& 0x03).setWidth 15 <<< 10) =
    (t.extractLsb' 12 3 ++ d.extractLsb' 0 2 ++ t.extractLsb' 0 10 : BitVec 15) := by
  apply BitVec.eq_of_getLsbD_eq
  simp only [BitVec.getLsbD_append, BitVec.getLsbD_or, BitVec.getLsbD_and, BitVec.getLsbD_extractLsb', BitVec.getLsbD_setWidth,
    BitVec.getLsbD_shiftLeft]
  rw [forall_lt_fifteen]
  simp

theorem addrHigh_fields : (t &&& 0x00FF) ||| ((d &&& 0x3F).setWidth 15 <<< 8) =
    (0#1 ++ d.extractLsb' 0 6 ++ t.extractLsb' 0 8 : BitVec 15) := by
  apply BitVec.eq_of_getLsbD_eq
  simp only [BitVec.getLsbD_append, BitVec.getLsbD_or, BitVec.getLsbD_and, BitVec.getLsbD_extractLsb', BitVec.getLsbD_setWidth,
    BitVec.getLsbD_shiftLeft]
  rw [forall_lt_fifteen]
  simp

theorem addrLow_fields : (t &&& 0x7F00) ||| d.setWidth 15 = (t.extractLsb' 8 7 ++ d : BitVec 15) := by
  apply BitVec.eq_of_getLsbD_eq
  simp only [BitVec.getLsbD_append, BitVec.getLsbD_or, BitVec.getLsbD_and, BitVec.getLsbD_extractLsb', BitVec.getLsbD_setWidth]
  rw [forall_lt_fifteen]
  simp

theorem scrollX_fields : (t &&& 0x7FE0) ||| (d >>> 3).setWidth 15 =
    (t.extractLsb' 5 10 ++ d.extractLsb' 3 5 : BitVec 15) := by
  apply BitVec.eq_of_getLsbD_eq
  simp only [BitVec.getLsbD_append, BitVec.getLsbD_or, BitVec.getLsbD_and, BitVec.getLsbD_extractLsb', BitVec.getLsbD_setWidth,
    BitVec.getLsbD_ushiftRight]
  rw [forall_lt_fifteen]
  simp

theorem scrollY_fields :
    (t &&& 0x0C1F) ||| ((d &&& 0x07).setWidth 15 <<< 12) ||| ((d >>> 3).setWidth 15 <<< 5) =
      (d.extractLsb' 0 3 ++ t.extractLsb' 10 2 ++ d.extractLsb' 3 5 ++ t.extractLsb' 0 5 : BitVec 15) := by
  apply BitVec.eq_of_getLsbD_eq
  simp only [BitVec.getLsbD_append, BitVec.getLsbD_or, BitVec.getLsbD_and, BitVec.getLsbD_extractLsb', BitVec.getLsbD_setWidth,
    BitVec.getLsbD_shiftLeft, BitVec.getLsbD_ushiftRight]
  rw [forall_lt_fifteen]
  simp

end

theorem attrByte_iff (a : Byte) : a &&& 3 = 2 ↔ a.extractLsb' 0 2 = 2 := by
  revert a
  decide

/-! ## The written registers -/

theorem writePpuCtrl_eq (d : Byte) (s : State) :
    writePpuCtrl d s =
      { s with
        ppu := { s.ppu with ctrl := d, t := s.ppu.t.extractLsb' 12 3 ++ d.extractLsb' 0 2 ++ s.ppu.t.extractLsb' 0 10 },
        nmiPending := s.nmiPending ||
          (!s.ppu.ctrl.getLsbD 7 && d.getLsbD 7 && s.ppu.vblank && s.params.nmiOnLateEnable) } := by
  rw [writePpuCtrl, ctrl_fields]
  rfl

theorem writePpuAddr_first {p : Ppu} (hw : p.w = false) (d : Byte) :
    writePpuAddr d p = { p with t := 0#1 ++ d.extractLsb' 0 6 ++ p.t.extractLsb' 0 8, w := true } := by
  rw [writePpuAddr, hw, addrHigh_fields]
  rfl

theorem writePpuAddr_second {p : Ppu} (hw : p.w = true) (d : Byte) :
    writePpuAddr d p = { p with v := p.t.extractLsb' 8 7 ++ d, t := p.t.extractLsb' 8 7 ++ d, w := false } := by
  rw [writePpuAddr, hw, addrLow_fields]
  rfl

theorem writePpuScroll_first {p : Ppu} (hw : p.w = false) (d : Byte) :
    writePpuScroll d p =
      { p with t := p.t.extractLsb' 5 10 ++ d.extractLsb' 3 5, x := d.extractLsb' 0 3, w := true } := by
  rw [writePpuScroll, hw, scrollX_fields]
  rfl

theorem writePpuScroll_second {p : Ppu} (hw : p.w = true) (d : Byte) :
    writePpuScroll d p =
      { p with
        t := d.extractLsb' 0 3 ++ p.t.extractLsb' 10 2 ++ d.extractLsb' 3 5 ++ p.t.extractLsb' 0 5, w := false } := by
  rw [writePpuScroll, hw, scrollY_fields]
  rfl

theorem oamDataByte_eq (p : Ppu) :
    oamDataByte p =
      if p.oamAddr.extractLsb' 0 2 = 2 then cellsRead p.oam p.oamAddr.toNat &&& 0xE3 else cellsRead p.oam p.oamAddr.toNat := by
  simp only [oamDataByte, beq_iff_eq, attrByte_iff]

/-- Settles O45, by the register each mirror reaches. -/
theorem addressAndScrollWrites : Obligations.AddressAndScrollWrites := by
  intro s d n hn
  have hwrite {r : Nat} (hr : r < 8) := busWrite_ppuMirror hn hr d s
  refine ⟨(hwrite (by decide)).trans (writePpuCtrl_eq d s), hwrite (by decide), hwrite (by decide), ⟨?_, fun hoam i => ?_⟩, ?_,
    fun hw => ⟨?_, ?_⟩, fun hw => ⟨?_, ?_⟩⟩
  · rw [hwrite (r := 4) (by decide)]
    rfl
  · rw [hwrite (r := 4) (by decide)]
    exact (cellsRead_cellsWrite hoam _ d _).trans (by simp only [BitVec.toNat_inj])
  · rw [busRead_ppuMirror hn (by decide), ← oamDataByte_eq]
    rfl
  · exact (hwrite (r := 6) (by decide)).trans (congrArg (fun p => { s with ppu := p }) (writePpuAddr_first hw d))
  · exact (hwrite (r := 5) (by decide)).trans (congrArg (fun p => { s with ppu := p }) (writePpuScroll_first hw d))
  · exact (hwrite (r := 6) (by decide)).trans (congrArg (fun p => { s with ppu := p }) (writePpuAddr_second hw d))
  · exact (hwrite (r := 5) (by decide)).trans (congrArg (fun p => { s with ppu := p }) (writePpuScroll_second hw d))

/-! ## PPUDATA -/

/-- The v after a PPUDATA access (R415, R420). -/
def nextV (par : Params) (p : Ppu) : BitVec 15 :=
  if par.ppudataRenderGlitch = true ∧ (p.mask.getLsbD 3 = true ∨ p.mask.getLsbD 4 = true) ∧
      (p.scanline ≤ 239 ∨ p.scanline = 261) then incY (incX p.v)
  else p.v + (if p.ctrl.getLsbD 2 = true then 32 else 1)

theorem advanceV_eq (par : Params) (p : Ppu) : advanceV par p = { p with v := nextV par p } := by
  have hglitch : (par.ppudataRenderGlitch && renderingEnabled p && renderLine p) = true ↔
      par.ppudataRenderGlitch = true ∧ (p.mask.getLsbD 3 = true ∨ p.mask.getLsbD 4 = true) ∧
        (p.scanline ≤ 239 ∨ p.scanline = 261) := by
    simp [renderingEnabled, showBg, showSpr, renderLine, and_assoc]
  simp only [advanceV, nextV, hglitch]
  split
  · rfl
  · rfl

/-- A write of the PPU space changes of the PPU its two memories alone (R130). -/
theorem ppuWrite_ppu (a : BitVec 14) (d : Byte) (s : State) :
    (ppuWrite a d s).ppu = { s.ppu with ntRam := (ppuWrite a d s).ppu.ntRam, palette := (ppuWrite a d s).ppu.palette } := by
  unfold ppuWrite
  simp only
  split
  · rfl
  · split
    · rfl
    · rfl

theorem nextV_ppuWrite (par : Params) (a : BitVec 14) (d : Byte) (s : State) :
    nextV par (ppuWrite a d s).ppu = nextV par s.ppu := by
  rw [ppuWrite_ppu]
  rfl

theorem writePpuData_eq (d : Byte) (s : State) :
    writePpuData d s =
      (let t := ppuWrite (ppuAddr s.ppu.v) d s
       { t with ppu := { t.ppu with v := nextV s.params s.ppu } }) := by
  simp only [writePpuData, advanceV_eq, nextV_ppuWrite]

/-- Settles O46, by the side of 0x3F00 on which v lies. -/
theorem dataPortReadsAndWrites : Obligations.DataPortReadsAndWrites := by
  intro s d n hn
  have hread := busRead_ppuMirror hn (r := 7) (by decide) s
  refine ⟨fun hlow => ?_, fun hhigh => ?_, ?_⟩
  · rw [hread]
    exact (if_pos hlow).trans (by rw [advanceV_eq]; rfl)
  · rw [hread]
    exact (if_neg (Nat.not_lt.2 hhigh)).trans (by rw [advanceV_eq]; rfl)
  · exact (busWrite_ppuMirror hn (by decide) d s).trans (writePpuData_eq d s)

end Sys2Proof.Machine
end

section
/-! The dots of a frame (R425, R426, R450, R451, R455): where each one leads, the two dots of the vertical blank, and how many a frame
takes with rendering off. -/

namespace Sys2Proof.Machine

/-! ## The position after a dot -/

/-- Does the dot end the frame early (R425, D15)? -/
abbrev SkipsLastDot (par : Params) (p : Ppu) : Prop :=
  p.scanline = 261 ∧ p.dot = 339 ∧ p.oddFrame = true ∧
    (p.mask.getLsbD 3 = true ∨ p.mask.getLsbD 4 = true ∨ par.oddSkipRequiresRendering = false)

theorem skipsDot_iff (par : Params) (p : Ppu) : skipsDot par p = true ↔ SkipsLastDot par p := by
  simp [skipsDot, SkipsLastDot, renderingEnabled, showBg, showSpr, and_assoc, or_assoc]

theorem advanceDot_eq (par : Params) (p : Ppu) :
    advanceDot par p =
      if SkipsLastDot par p then { p with scanline := 0, dot := 0, oddFrame := false }
      else if p.dot + 1 ≠ 341 then { p with dot := p.dot + 1 }
      else if p.scanline + 1 ≠ 262 then { p with dot := 0, scanline := p.scanline + 1 }
      else { p with dot := 0, scanline := 0, oddFrame := !p.oddFrame } := by
  simp only [advanceDot, skipsDot_iff, beq_iff_eq, ite_not]

theorem advanceDot_of_dot_one {p : Ppu} (hdot : p.dot = 1) (par : Params) : advanceDot par p = { p with dot := 2 } := by
  simp [advanceDot_eq, hdot]

/-- A dot does its work and moves the position on (R425). -/
theorem ppuTick_ppu (s : State) :
    let p := doDot s.cart s.mapper s.ppu.scanline s.ppu.dot s.ppu
    (ppuTick s).ppu =
      if SkipsLastDot s.params s.ppu then { p with scanline := 0, dot := 0, oddFrame := false }
      else if s.ppu.dot + 1 ≠ 341 then { p with dot := s.ppu.dot + 1 }
      else if s.ppu.scanline + 1 ≠ 262 then { p with dot := 0, scanline := s.ppu.scanline + 1 }
      else { p with dot := 0, scanline := 0, oddFrame := !s.ppu.oddFrame } := by
  intro p
  have hkeeps : keepsRegisters s.ppu p := doDot_keeps s.cart s.mapper s.ppu.scanline s.ppu.dot s.ppu
  have htick : (ppuTick s).ppu = advanceDot s.params p := rfl
  generalize p = q at hkeeps htick ⊢
  obtain ⟨-, hmask, -, -, -, -, -, hline, hdot, hodd, -⟩ := hkeeps
  rw [htick, advanceDot_eq]
  simp only [SkipsLastDot, hmask, hline, hdot, hodd]

/-! ## The two dots of the vertical blank -/

/-- The work of dot (241, 1): line 241 is neither a render line nor a visible one (R426, R450). -/
theorem doDot_vblankStart {p : Ppu} (hline : p.scanline = 241) (c : Cart) (m : Mapper) : doDot c m 241 1 p = startVblank p := by
  have hidle : renderLine (startVblank p) = false := by simp [renderLine, startVblank, hline]
  simp [doDot, dotFlags, dotSprites, hidle]

/-- The work of dot (261, 1): the background pipeline is idle at dot 1 (R430, R451). -/
theorem doDot_vblankEnd (c : Cart) (m : Mapper) (p : Ppu) : doDot c m 261 1 p = clearStatus p := by
  have hidle (q : Ppu) : stepBg c m 261 1 q = q := rfl
  simp [doDot, dotFlags, dotSprites, hidle]

theorem ppuTick_vblankStart {s : State} (hline : s.ppu.scanline = 241) (hdot : s.ppu.dot = 1) :
    ppuTick s =
      { s with nmiPending := s.nmiPending || s.ppu.ctrl.getLsbD 7,
               ppu := { s.ppu with vblank := true, fbBack := s.ppu.fbFront, fbFront := s.ppu.fbBack, dot := 2 } } := by
  have hnmi : ppuRaisesNmi s.ppu = s.ppu.ctrl.getLsbD 7 := by simp [ppuRaisesNmi, hline, hdot, nmiEnable]
  have hppu : ppuDot s.params s.cart s.mapper s.ppu =
      { s.ppu with vblank := true, fbBack := s.ppu.fbFront, fbFront := s.ppu.fbBack, dot := 2 } := by
    rw [ppuDot, hline, hdot, doDot_vblankStart hline, advanceDot_of_dot_one (p := startVblank s.ppu) hdot]
    rfl
  rw [ppuTick, hnmi, hppu]

theorem ppuTick_vblankEnd {s : State} (hline : s.ppu.scanline = 261) (hdot : s.ppu.dot = 1) :
    ppuTick s =
      { s with ppu := { s.ppu with vblank := false, spr0Hit := false, sprOverflow := false, dot := 2 } } := by
  have hnmi : ppuRaisesNmi s.ppu = false := by simp [ppuRaisesNmi, hline]
  have hppu : ppuDot s.params s.cart s.mapper s.ppu =
      { s.ppu with vblank := false, spr0Hit := false, sprOverflow := false, dot := 2 } := by
    rw [ppuDot, hline, hdot, doDot_vblankEnd, advanceDot_of_dot_one (p := clearStatus s.ppu) hdot]
    rfl
  rw [ppuTick, hnmi, hppu, Bool.or_false]

theorem dotFrames_eq (s : State) :
    dotFrames s = if s.ppu.scanline = 241 ∧ s.ppu.dot = 1 then [s.ppu.fbBack] else [] := by
  by_cases hstart : s.ppu.scanline = 241 ∧ s.ppu.dot = 1
  · rw [dotFrames, ppuTick_vblankStart hstart.1 hstart.2]
    simp [hstart]
  · simp [dotFrames, hstart]

/-- Settles O49: the position by where a dot leads, the frames and the flags by the work of the two dots. -/
theorem vblankStartsAndEnds : Obligations.VblankStartsAndEnds := by
  refine ⟨fun s => ?_, dotFrames_eq, fun s hdot => ⟨fun hline => ppuTick_vblankStart hline hdot,
    fun hline => ppuTick_vblankEnd hline hdot⟩⟩
  exact ppuTick_ppu s

/-! ## A frame with rendering off -/

theorem rendering_off {m : Byte} (h : m &&& 0x18 = 0) : m.getLsbD 3 = false ∧ m.getLsbD 4 = false :=
  ⟨by simpa using congrArg (BitVec.getLsbD · 3) h, by simpa using congrArg (BitVec.getLsbD · 4) h⟩

/-- The PPU stands `n` dots after the start of a frame of parity `odd`, rendering being off. -/
def AtDot (n : Nat) (odd : Bool) (p : Ppu) : Prop :=
  p.mask &&& 0x18 = 0 ∧ p.scanline = n / 341 ∧ p.dot = n % 341 ∧ p.oddFrame = odd

/-- The dots of a frame with rendering off (R425, D15). -/
def idleFrameDots (par : Params) (odd : Bool) : Nat :=
  if par.oddSkipRequiresRendering = false ∧ odd = true then 89341 else 89342

/-- With rendering off the dot that ends the frame early is the one before the last. -/
theorem AtDot.skips_iff {n : Nat} {odd : Bool} {p : Ppu} (h : AtDot n odd p) (par : Params) :
    SkipsLastDot par p ↔ n = 89340 ∧ par.oddSkipRequiresRendering = false ∧ odd = true := by
  obtain ⟨hmask, hline, hdot, hodd⟩ := h
  obtain ⟨h3, h4⟩ := rendering_off hmask
  simp only [SkipsLastDot, hline, hdot, hodd, h3, h4, Bool.false_eq_true, false_or]
  constructor
  · rintro ⟨h1, h2, ho, hp⟩
    exact ⟨by omega, hp, ho⟩
  · rintro ⟨rfl, hp, ho⟩
    exact ⟨rfl, rfl, ho, hp⟩

/-- What of the PPU no dot changes: PPUCTRL, PPUMASK and the three memories. -/
def keepsWritten (p q : Ppu) : Prop :=
  q.ctrl = p.ctrl ∧ q.mask = p.mask ∧ q.ntRam = p.ntRam ∧ q.palette = p.palette ∧ q.oam = p.oam

theorem ppuTick_keepsWritten (s : State) : keepsWritten s.ppu (ppuTick s).ppu := by
  obtain ⟨hctrl, hmask, -, -, -, -, -, -, -, -, hmemories⟩ :=
    doDot_keeps s.cart s.mapper s.ppu.scanline s.ppu.dot s.ppu
  simp only [ppuTick_ppu]
  repeat' split
  all_goals exact ⟨hctrl, hmask, hmemories⟩

theorem ppuTick_mask (s : State) : (ppuTick s).ppu.mask = s.ppu.mask := by
  obtain ⟨-, hmask, -⟩ := ppuTick_keepsWritten s
  exact hmask

/-- A dot that is not the frame's last leads to the next place of the frame. -/
theorem AtDot.next {n : Nat} {odd : Bool} {s : State} (h : AtDot n odd s.ppu) (hn : n + 1 < idleFrameDots s.params odd) :
    AtDot (n + 1) odd (ppuTick s).ppu := by
  have hskip : ¬ SkipsLastDot s.params s.ppu := by
    rw [h.skips_iff]
    rintro ⟨rfl, hshort⟩
    simp [idleFrameDots, hshort] at hn
  have hinside : n + 1 < 89342 := Nat.lt_of_lt_of_le hn (by unfold idleFrameDots; split <;> decide)
  obtain ⟨hmask, hline, hdot, hodd⟩ := h
  obtain ⟨-, -, -, -, -, -, -, hl, -, ho, -⟩ := doDot_keeps s.cart s.mapper s.ppu.scanline s.ppu.dot s.ppu
  refine ⟨by rwa [ppuTick_mask], ?_⟩
  simp only [ppuTick_ppu, if_neg hskip]
  split
  · exact ⟨hl.trans (by omega), show s.ppu.dot + 1 = _ by omega, ho.trans hodd⟩
  · split
    · exact ⟨show s.ppu.scanline + 1 = _ by omega, show 0 = _ by omega, ho.trans hodd⟩
    · omega

/-- The last dot, skipped over or not, leads to the start of a frame of the other parity. -/
theorem AtDot.last {n : Nat} {odd : Bool} {s : State} (h : AtDot n odd s.ppu) (hn : n + 1 = idleFrameDots s.params odd) :
    AtDot 0 (!odd) (ppuTick s).ppu := by
  have hskip : SkipsLastDot s.params s.ppu ↔ s.params.oddSkipRequiresRendering = false ∧ odd = true := by
    rw [h.skips_iff]
    refine ⟨And.right, fun hshort => ⟨?_, hshort⟩⟩
    simpa [idleFrameDots, hshort] using hn
  obtain ⟨hmask, hline, hdot, hodd⟩ := h
  refine ⟨by rwa [ppuTick_mask], ?_⟩
  simp only [ppuTick_ppu, hskip]
  by_cases hshort : s.params.oddSkipRequiresRendering = false ∧ odd = true
  · simp [hshort]
  · have hlast : n = 89341 := by simpa [idleFrameDots, hshort] using hn
    have hd : s.ppu.dot + 1 = 341 := by omega
    have hl : s.ppu.scanline + 1 = 262 := by omega
    simp [hshort, hd, hl, hodd]

theorem iterate_succ_outer {α : Type} (f : α → α) : ∀ (n : Nat) (a : α), iterate f (n + 1) a = f (iterate f n a)
  | 0, _ => rfl
  | n + 1, a => iterate_succ_outer f n (f a)

theorem iterate_ppuTick_params (n : Nat) (s : State) : (iterate ppuTick n s).params = s.params :=
  (congrArg State.params (iterate_ppuTick_frame n s) :)

theorem AtDot.iterate {s : State} (h : AtDot 0 s.ppu.oddFrame s.ppu) {n : Nat} (hn : n < idleFrameDots s.params s.ppu.oddFrame) :
    AtDot n s.ppu.oddFrame (Machine.iterate ppuTick n s).ppu := by
  induction n with
  | zero => exact h
  | succ n ih =>
    rw [iterate_succ_outer]
    exact (ih (by omega)).next (by rwa [iterate_ppuTick_params])

/-- Settles O50, by induction on the dots: each but the last leads to the next place, and the last to the start of a frame of the
other parity. -/
theorem frameWithoutRenderingTakes89342Dots : Obligations.FrameWithoutRenderingTakes89342Dots := by
  intro s hmask hline hdot frame
  have hframe : frame = idleFrameDots s.params s.ppu.oddFrame := rfl
  have hstart : AtDot 0 s.ppu.oddFrame s.ppu := ⟨hmask, hline, hdot, rfl⟩
  have hpos : frame - 1 + 1 = frame := Nat.sub_add_cancel (by rw [hframe, idleFrameDots]; split <;> decide)
  have hlast : AtDot 0 (!s.ppu.oddFrame) (iterate ppuTick frame s).ppu := by
    rw [← hpos, iterate_succ_outer]
    exact (hstart.iterate (by omega)).last (by rwa [iterate_ppuTick_params])
  refine ⟨fun n hn => ?_, ?_⟩
  · obtain ⟨-, hl, hd, -⟩ := hstart.iterate hn
    exact ⟨hl, hd⟩
  · obtain ⟨-, hl, hd, ho⟩ := hlast
    exact ⟨hl, hd, ho⟩

end Sys2Proof.Machine
end

section
/-! The APU's registers (R503, R513 to R536, R540): what a write puts where, what a status read shows, and when the DMC's reader
fetches (R553, R557, R558). -/

namespace Sys2Proof.Machine

/-! ## The DMC -/

theorem restartSample_eq (c : Dmc) : restartSample c = dmcRestarted c := by
  have haddr : zext16 c.addrReg * 64 = 64 * c.addrReg.setWidth 16 := BitVec.mul_comm _ _
  have hlength : c.lenReg.setWidth 12 * 16 + 1 = BitVec.ofNat 12 (16 * c.lenReg.toNat + 1) := by
    apply BitVec.eq_of_toNat_eq
    simp
    omega
  rw [restartSample, haddr, hlength]
  rfl

theorem enableDmc_eq (d : Byte) (c : Dmc) : enableDmc d c = dmcEnabled d c := by
  simp only [enableDmc, dmcEnabled, restartSample_eq, beq_iff_eq]

/-- Of the last byte of a sample the reader's count is 1 (R558). -/
theorem dmcFetched_eq (b : Byte) (c : Dmc) : dmcFetched b c = dmcAfterFetch b c := by
  have hlast : c.remaining - 1 = 0 ↔ c.remaining = 1 := by
    constructor
    · intro h; bv_omega
    · intro h; bv_omega
  simp only [dmcFetched, dmcAfterFetch, beq_iff_eq, hlast, restartSample_eq]
  split
  · split
    · rfl
    · cases hirq : c.irqEnable <;> simp
  · rfl

theorem dmcReader_of_full_or_empty {s : State} (h : s.apu.dmc.bufferFull = true ∨ s.apu.dmc.remaining = 0) :
    dmcReader s = s := by
  have hwants : dmcWants s.apu.dmc = false := by
    obtain h | h := h
    · simp [dmcWants, h]
    · simp [dmcWants, h]
  simp [dmcReader, hwants]

theorem dmcReader_fetches {s : State} (hempty : s.apu.dmc.bufferFull = false) (hleft : s.apu.dmc.remaining ≠ 0)
    (haddr : 0x8000 ≤ s.apu.dmc.curAddr.toNat) :
    dmcReader s =
      { s with
        apu := { s.apu with dmc := dmcAfterFetch (prgByte s s.apu.dmc.curAddr) s.apu.dmc },
        stallPending := s.stallPending + s.params.dmcStallCycles.val } := by
  have hwants : dmcWants s.apu.dmc = true := by simpa [dmcWants, hempty] using hleft
  simp only [dmcReader, hwants, if_true, busRead_prg haddr, dmcFetched_eq]

/-! ## The registers -/

theorem busWrite_apuRegister {a : Word} {r : Nat} (ha : a.toNat = 0x4000 + r) (hr : r < 0x14) (d : Byte) (s : State) :
    busWrite a d s = { s with apu := apuRegWrite r d s.apu } := by
  have hoffset : a.toNat - 0x4000 = r := by omega
  rw [← hoffset]
  exact (if_neg (by omega)).trans ((if_neg (by omega)).trans (if_pos (by omega)))

/-- A bus read changes of the APU the frame flag alone (R112, R535). -/
theorem busRead_apu (a : Word) (s : State) : (busRead a s).2.apu = { s.apu with frame := (busRead a s).2.apu.frame } := by
  unfold busRead ppuRegRead readPpuData readPpuStatus readApuStatus readPad mapperRead drawOpenBus
  simp only
  repeat' split
  all_goals rfl

/-- The reader leaves the four sounding channels alone (R557). -/
theorem dmcReader_channels (s : State) :
    (dmcReader s).apu = { s.apu with dmc := (dmcReader s).apu.dmc, frame := (dmcReader s).apu.frame } := by
  unfold dmcReader
  split
  · simp only
    rw [busRead_apu]
  · rfl

theorem writeApuEnable_eq (d : Byte) (s : State) :
    writeApuEnable d s =
      dmcReader { s with apu := { enableChannels d s.apu with dmc := dmcEnabled d s.apu.dmc } } := by
  rw [writeApuEnable, enableDmc_eq]
  rfl

theorem writeApuEnable_channels (d : Byte) (s : State) :
    (writeApuEnable d s).apu =
      { enableChannels d s.apu with dmc := (writeApuEnable d s).apu.dmc, frame := (writeApuEnable d s).apu.frame } :=
  dmcReader_channels _

theorem bitVec_beq_eq_decide {w : Nat} (x y : BitVec w) : (x == y) = decide (x = y) := rfl

/-- The bits of a status read (R535). -/
theorem readApuStatus_bits (s : State) :
    let r := (readApuStatus s).1
    r.getLsbD 7 = s.apu.dmc.irqFlag ∧ r.getLsbD 6 = s.apu.frame.irqFlag ∧
    r.getLsbD 5 = (Config.openBus s.draws).getLsbD 5 ∧
    r.getLsbD 4 = decide (s.apu.dmc.remaining ≠ 0) ∧ r.getLsbD 3 = decide (s.apu.noise.length ≠ 0) ∧
    r.getLsbD 2 = decide (s.apu.tri.length ≠ 0) ∧ r.getLsbD 1 = decide (s.apu.pulse2.length ≠ 0) ∧
    r.getLsbD 0 = decide (s.apu.pulse1.length ≠ 0) := by
  simp only [readApuStatus, drawOpenBus, lengthStatus, BitVec.getLsbD_append, BitVec.getLsbD_extractLsb']
  refine ⟨?_, ?_, ?_, ?_, ?_, ?_, ?_, ?_⟩
  all_goals simp [bne, bitVec_beq_eq_decide]

theorem writeDmcRate_eq (d : Byte) (c : Dmc) :
    dmcWrite 0 d c =
      { c with
        irqEnable := d.getLsbD 7, loop := d.getLsbD 6, rateIdx := d.extractLsb' 0 4, irqFlag := c.irqFlag && d.getLsbD 7 } := by
  have hflag : (if d.getLsbD 7 = true then c.irqFlag else false) = (c.irqFlag && d.getLsbD 7) := by
    cases d.getLsbD 7 <;> simp
  rw [← hflag]
  rfl

/-- Settles O51: each register's part is its own write, and the reader runs after a write of 0x4015. -/
theorem lengthCountersAndStatus : Obligations.LengthCountersAndStatus := by
  intro s d
  have henable : busWrite 0x4015 d s = writeApuEnable d s := rfl
  refine ⟨?_, rfl, rfl, rfl, rfl, ?_, ?_, busWrite_apuRegister (r := 0x11) rfl (by decide) d s,
    busWrite_apuRegister (r := 0x12) rfl (by decide) d s, busWrite_apuRegister (r := 0x13) rfl (by decide) d s, ?_,
    dmcReader_of_full_or_empty, dmcReader_fetches⟩
  · have hchannels := writeApuEnable_channels d s
    rw [henable]
    intro t
    rw [show t.apu = _ from hchannels]
    exact ⟨rfl, rfl, rfl, rfl, rfl, rfl, rfl, rfl⟩
  · obtain ⟨h7, h6, h5, h4, h3, h2, h1, h0⟩ := readApuStatus_bits s
    exact ⟨h7, h6, h5, h4, h3, h2, h1, h0, rfl⟩
  · exact (busWrite_apuRegister (r := 0x10) rfl (by decide) d s).trans
      (congrArg (fun c => { s with apu := { s.apu with dmc := c } }) (writeDmcRate_eq d s.apu.dmc))
  · exact writeApuEnable_eq d s

end Sys2Proof.Machine
end

section
/-! The frame sequencer (R540 to R545): what a tick clocks at which cycle, and what that makes of the frame flag over a sequence. -/

namespace Sys2Proof.Machine

theorem writeFrameCounter_eq (d : Byte) (a : Apu) :
    writeFrameCounter d a =
      (let b : Apu := { a with frame :=
         { mode := d.getLsbD 7, irqInhibit := d.getLsbD 6, irqFlag := a.frame.irqFlag && !d.getLsbD 6, cycle := 0 } }
       if d.getLsbD 7 = true then halfFrame (quarterFrame b) else b) := by
  have hflag : (if d.getLsbD 6 = true then false else a.frame.irqFlag) = (a.frame.irqFlag && !d.getLsbD 6) := by
    cases d.getLsbD 6 <;> simp
  rw [writeFrameCounter, hflag]

/-! ## A tick -/

/-- At a clock of its sequence (R541 to R545). -/
theorem frameTick_of_clock {a : Apu} {e : Nat × Bool} (he : e ∈ frameClocks a.frame.mode) (hcycle : a.frame.cycle + 1 = e.1) :
    frameTick a =
      { (if e.2 = true then halfFrame (quarterFrame a) else quarterFrame a) with
        frame := { a.frame with
          cycle := e.1, irqFlag := a.frame.irqFlag || (decide (e.1 = 29829) && !a.frame.irqInhibit) } } := by
  cases hmode : a.frame.mode with
  | false =>
    simp only [hmode, frameClocks, List.mem_cons, List.not_mem_nil, or_false] at he
    obtain rfl | rfl | rfl | rfl := he
    · simp [frameTick, hmode, frameTick4, hcycle, quarterFrame]
    · simp [frameTick, hmode, frameTick4, hcycle, quarterFrame, halfFrame]
    · simp [frameTick, hmode, frameTick4, hcycle, quarterFrame]
    · cases hinhibit : a.frame.irqInhibit <;> simp [frameTick, hmode, hinhibit, frameTick4, hcycle, quarterFrame, halfFrame]
  | true =>
    simp only [hmode, frameClocks, List.mem_cons, List.not_mem_nil, or_false] at he
    obtain rfl | rfl | rfl | rfl := he
    · simp [frameTick, hmode, frameTick5, hcycle, quarterFrame]
    · simp [frameTick, hmode, frameTick5, hcycle, quarterFrame, halfFrame]
    · simp [frameTick, hmode, frameTick5, hcycle, quarterFrame]
    · simp [frameTick, hmode, frameTick5, hcycle, quarterFrame, halfFrame]

/-- Between the clocks of its sequence (R541, R542). -/
theorem frameTick_of_no_clock {a : Apu} (h : ∀ e ∈ frameClocks a.frame.mode, a.frame.cycle + 1 ≠ e.1) :
    frameTick a =
      { a with frame := { a.frame with
          cycle := if a.frame.cycle + 1 = frameLength a.frame.mode then 0 else a.frame.cycle + 1 } } := by
  cases hmode : a.frame.mode with
  | false =>
    simp only [hmode, frameClocks, List.forall_mem_cons, List.not_mem_nil, false_imp_iff, implies_true, and_true] at h
    obtain ⟨h1, h2, h3, h4⟩ := h
    by_cases hend : a.frame.cycle + 1 = 29830
    · simp [frameTick, hmode, frameTick4, hend, frameLength]
    · simp only [frameTick, hmode, frameTick4, beq_iff_eq, h1, h2, h3, h4, hend, frameLength, if_false, Bool.false_eq_true]
  | true =>
    simp only [hmode, frameClocks, List.forall_mem_cons, List.not_mem_nil, false_imp_iff, implies_true, and_true] at h
    obtain ⟨h1, h2, h3, h4⟩ := h
    by_cases hend : a.frame.cycle + 1 = 37282
    · simp [frameTick, hmode, frameTick5, hend, frameLength]
    · simp only [frameTick, hmode, frameTick5, beq_iff_eq, h1, h2, h3, h4, hend, frameLength, if_false, if_true]

/-! ## A sequence -/

theorem frameClocks_lt {mode : Bool} {e : Nat × Bool} (he : e ∈ frameClocks mode) :
    e.1 < frameLength mode ∧ (e.1 = 29829 → mode = false) := by
  cases mode with
  | false => revert e; decide
  | true => revert e; decide

/-- What a tick does to the sequencer itself: the 4-step sequence alone raises the flag, at its cycle 29829 (R541, R542). -/
theorem frameTick_frame (a : Apu) :
    (frameTick a).frame =
      { a.frame with
        cycle := if a.frame.cycle + 1 = frameLength a.frame.mode then 0 else a.frame.cycle + 1
        irqFlag := a.frame.irqFlag || (!a.frame.mode && decide (a.frame.cycle + 1 = 29829) && !a.frame.irqInhibit) } := by
  by_cases hclock : ∃ e ∈ frameClocks a.frame.mode, a.frame.cycle + 1 = e.1
  · obtain ⟨e, he, hcycle⟩ := hclock
    obtain ⟨hlt, hmode⟩ := frameClocks_lt he
    have hflag : decide (e.1 = 29829) = (!a.frame.mode && decide (e.1 = 29829)) := by
      by_cases h : e.1 = 29829
      · simp [h, hmode h]
      · simp [h]
    rw [frameTick_of_clock he hcycle, hcycle, if_neg (Nat.ne_of_lt hlt), ← hflag]
  · have hquiet (e) (he : e ∈ frameClocks a.frame.mode) : a.frame.cycle + 1 ≠ e.1 := fun h => hclock ⟨e, he, h⟩
    have hflag : (!a.frame.mode && decide (a.frame.cycle + 1 = 29829)) = false := by
      cases hmode : a.frame.mode with
      | true => rfl
      | false => simpa using hquiet (29829, true) (by rw [hmode]; decide)
    rw [frameTick_of_no_clock hquiet, hflag, Bool.false_and, Bool.or_false]

/-- From the start of a sequence, `n` ticks lead to its cycle `n`; a 4-step sequence that is not inhibited has raised the flag from
cycle 29829 on. -/
theorem iterate_frameTick_frame {a : Apu} (hstart : a.frame.cycle = 0) {n : Nat} (hn : n ≤ frameLength a.frame.mode) :
    (iterate frameTick n a).frame =
      { a.frame with
        cycle := n % frameLength a.frame.mode
        irqFlag := a.frame.irqFlag || (!a.frame.mode && decide (29829 ≤ n) && !a.frame.irqInhibit) } := by
  induction n with
  | zero =>
    calc a.frame = { a.frame with cycle := 0 } := by rw [← hstart]
      _ = _ := by simp
  | succ n ih =>
    have hlast : (n + 1) % frameLength a.frame.mode = if n + 1 = frameLength a.frame.mode then 0 else n + 1 := by
      split
      · next h => rw [h, Nat.mod_self]
      · exact Nat.mod_eq_of_lt (by omega)
    have hflag : decide (29829 ≤ n + 1) = (decide (29829 ≤ n) || decide (n + 1 = 29829)) := by
      rw [← Bool.decide_or]
      exact decide_eq_decide.2 (by omega)
    rw [iterate_succ_outer, frameTick_frame, ih (by omega), Nat.mod_eq_of_lt (by omega), hlast, hflag]
    simp only [Bool.and_or_distrib_left, Bool.and_or_distrib_right, Bool.or_assoc]

/-- Settles O52: the flag over a sequence follows from what each tick does to it. -/
theorem frameInterruptOncePerSequence : Obligations.FrameInterruptOncePerSequence := by
  refine ⟨fun s d => congrArg (fun a => { s with apu := a }) (writeFrameCounter_eq d s.apu),
    fun a e he hcycle => frameTick_of_clock he hcycle, fun a h => frameTick_of_no_clock h,
    fun a hmode hstart hflag n hn => ?_, fun a hmode hstart n hn => ?_⟩
  · rw [iterate_frameTick_frame hstart (by rwa [hmode])]
    simp [hmode, hflag, frameLength, Bool.and_comm]
  · rw [iterate_frameTick_frame hstart (by rwa [hmode])]
    simp [hmode, frameLength]

end Sys2Proof.Machine
end

section
/-! The controller ports (R660 to R662): a read shows bit 0 of the pad's shift register and, while the strobe is 0, shifts in a 1. -/

namespace Sys2Proof.Machine

/-- The shift register of a pad: 0 for pad 0, else pad 1's (R51). -/
def padShift (pad : Fin 2) (s : State) : Byte :=
  match pad with
  | 0 => s.ports.shift0
  | 1 => s.ports.shift1

theorem readPad_bit (pad : Nat) (s : State) : (readPad pad s).1.getLsbD 0 = (padReport pad s).getLsbD 0 := by
  simp only [readPad, BitVec.getLsbD_append]
  simp

@[simp] theorem readPad_strobe (pad : Nat) (s : State) : (readPad pad s).2.ports.strobe = s.ports.strobe := by
  unfold readPad
  simp only
  split <;> rfl

@[simp] theorem readPad_cpuCycles (pad : Nat) (s : State) : (readPad pad s).2.cpuCycles = s.cpuCycles := rfl

theorem padReport_of_strobe {s : State} (h : s.ports.strobe = true) (pad : Nat) :
    padReport pad s = Config.controllerInput pad s.cpuCycles := by
  simp [padReport, h]

theorem padReport_of_no_strobe {s : State} (h : s.ports.strobe = false) (pad : Fin 2) : padReport pad s = padShift pad s := by
  match pad with
  | 0 => simp [padReport, h, padShift]
  | 1 => simp [padReport, h, padShift]

theorem padShift_readPad {s : State} (h : s.ports.strobe = false) (pad : Fin 2) :
    padShift pad (readPad pad s).2 = (padShift pad s >>> 1) ||| 0x80 := by
  rw [← padReport_of_no_strobe h]
  match pad with
  | 0 => exact if_neg (by simp [h])
  | 1 => exact if_neg (by simp [h])

/-- A 1 comes in at bit 7, the other bits move down (R662). -/
theorem getLsbD_shiftedIn (x : Byte) {i : Nat} (hi : i < 8) :
    ((x >>> 1) ||| 0x80).getLsbD i = if i + 1 < 8 then x.getLsbD (i + 1) else true := by
  rw [BitVec.getLsbD_or, BitVec.getLsbD_ushiftRight, Nat.add_comm 1 i]
  by_cases hlast : i = 7
  · subst hlast
    simp
  · have hzero : (0x80 : Byte).getLsbD i = false :=
      (by decide : ∀ j : Fin 8, j.1 ≠ 7 → (0x80 : Byte).getLsbD j.1 = false) ⟨i, hi⟩ hlast
    rw [hzero, Bool.or_false, if_pos (by omega)]

/-- After `k` reads bit `i` of the shift register is bit `i + k` of the report, and 1 beyond its last (R662). -/
theorem padShift_iterate_readPad (pad : Fin 2) (k : Nat) {s : State} (h : s.ports.strobe = false) {i : Nat} (hi : i < 8) :
    (padShift pad (iterate (fun u => (readPad pad u).2) k s)).getLsbD i =
      if i + k < 8 then (padShift pad s).getLsbD (i + k) else true := by
  induction k generalizing s with
  | zero => simp [iterate, hi]
  | succ k ih =>
    rw [iterate, ih (by rwa [readPad_strobe]), padShift_readPad h]
    by_cases hreport : i + k < 8
    · rw [if_pos hreport, getLsbD_shiftedIn _ hreport]
      rfl
    · rw [if_neg hreport, if_neg (by omega)]

theorem iterate_readPad_strobe (pad : Nat) (k : Nat) (s : State) :
    (iterate (fun u => (readPad pad u).2) k s).ports.strobe = s.ports.strobe := by
  induction k with
  | zero => rfl
  | succ k ih => rw [iterate_succ_outer, readPad_strobe, ih]

theorem iterate_readPad_cpuCycles (pad : Nat) (k : Nat) (s : State) :
    (iterate (fun u => (readPad pad u).2) k s).cpuCycles = s.cpuCycles := by
  induction k with
  | zero => rfl
  | succ k ih => rw [iterate_succ_outer, readPad_cpuCycles, ih]

/-- The bit of the `k`-th read of a pad, counted from 0, after the strobe (R662). -/
theorem readPad_iterate_of_no_strobe (pad : Fin 2) (k : Nat) {s : State} (h : s.ports.strobe = false) :
    (readPad pad (iterate (fun u => (readPad pad u).2) k s)).1.getLsbD 0 =
      if k < 8 then (padShift pad s).getLsbD k else true := by
  rw [readPad_bit, padReport_of_no_strobe ((iterate_readPad_strobe pad k s).trans h), padShift_iterate_readPad pad k h (by decide),
    Nat.zero_add]

/-- The bit of every read while the strobe is 1 (R662). -/
theorem readPad_iterate_of_strobe (pad k : Nat) {s : State} (h : s.ports.strobe = true) :
    (readPad pad (iterate (fun u => (readPad pad u).2) k s)).1.getLsbD 0 =
      (Config.controllerInput pad s.cpuCycles).getLsbD 0 := by
  rw [readPad_bit, padReport_of_strobe ((iterate_readPad_strobe pad k s).trans h), iterate_readPad_cpuCycles]

theorem busRead_port0 (s : State) : busRead 0x4016 s = readPad 0 s := rfl

theorem busRead_port1 (s : State) : busRead 0x4017 s = readPad 1 s := rfl

/-- Settles O53: the strobe by its two writes, the reads by induction on their number. -/
theorem controllerReportIsShiftedOut : Obligations.ControllerReportIsShiftedOut := by
  refine ⟨fun s => rfl, fun s k h => ?_, fun s k h => ?_⟩
  · simp only [busRead_port0, busRead_port1]
    exact ⟨readPad_iterate_of_no_strobe 0 k h, readPad_iterate_of_no_strobe 1 k h⟩
  · simp only [busRead_port0, busRead_port1]
    exact ⟨readPad_iterate_of_strobe 0 k h, readPad_iterate_of_strobe 1 k h⟩

end Sys2Proof.Machine
end

section
/-! The baseline mapper on the CPU bus (R620, R622). -/

namespace Sys2Proof.Machine

/-- The PRG slots of the baseline mapping (R620). -/
theorem State.BaselineSlots.prgSlots {s : State} (h : s.BaselineSlots) :
    s.mapper.prgSlot0 = 0 ∧ s.mapper.prgSlot1 = if 2 ≤ s.cart.prgBanks then 1 else 0 :=
  ⟨congrArg Mapper.prgSlot0 h, congrArg Mapper.prgSlot1 h⟩

theorem prgByte_of_no_bank {s : State} (h : s.cart.prgBanks = 0) (a : Word) : prgByte s a = 0 := by
  simp [prgByte, h]

section
variable {s : State} {j : Nat} (hj : j < 16384)
include hj

theorem prgLower_toNat : (BitVec.ofNat 16 (0x8000 + j)).toNat = 0x8000 + j := by
  rw [BitVec.toNat_ofNat, Nat.mod_eq_of_lt (by omega)]

theorem prgUpper_toNat : (BitVec.ofNat 16 (0xC000 + j)).toNat = 0xC000 + j := by
  rw [BitVec.toNat_ofNat, Nat.mod_eq_of_lt (by omega)]

theorem prgByte_lower (hbank : s.cart.prgBanks ≠ 0) :
    prgByte s (BitVec.ofNat 16 (0x8000 + j)) = cellsRead s.cart.prg (16384 * s.mapper.prgSlot0 + j) := by
  have hplace : (0x8000 + j) % 16384 = j := by omega
  have hlow : 0x8000 + j < 0xC000 := by omega
  simp only [prgByte, beq_iff_eq, hbank, if_false, prgLower_toNat hj, hlow, if_true, hplace]

theorem prgByte_upper (hbank : s.cart.prgBanks ≠ 0) :
    prgByte s (BitVec.ofNat 16 (0xC000 + j)) = cellsRead s.cart.prg (16384 * s.mapper.prgSlot1 + j) := by
  have hplace : (0xC000 + j) % 16384 = j := by omega
  have hhigh : ¬ 0xC000 + j < 0xC000 := by omega
  simp only [prgByte, beq_iff_eq, hbank, if_false, prgUpper_toNat hj, hhigh, hplace]

end

theorem busWrite_prg {a : Word} (ha : 0x8000 ≤ a.toNat) (v : Byte) (s : State) : busWrite a v s = s := by
  rw [busWrite_mapperRange (by omega)]
  exact if_neg (by omega)

/-- PRG RAM that is present reads and writes (R622). -/
theorem busAccess_prgRam {a : Word} (hlo : 0x6000 ≤ a.toNat) (hhi : a.toNat < 0x8000) {s : State}
    (hpresent : s.params.prgRamPresent = true) (v : Byte) :
    busRead a s = (cellsRead s.mapper.prgRam (a.toNat - 0x6000), s) ∧
    busWrite a v s =
      { s with mapper := { s.mapper with prgRam := cellsWrite s.mapper.prgRam (a.toNat - 0x6000) v } } := by
  rw [busRead_mapperRange (by omega), busWrite_mapperRange (by omega)]
  exact ⟨(if_neg (Nat.not_lt.2 hlo)).trans ((if_pos hhi).trans (if_pos hpresent)), if_pos ⟨hlo, hhi, hpresent⟩⟩

/-- Where no device answers, a read is an open one and a write is lost (R113, R114, R622). -/
theorem busAccess_open {a : Word} (hlo : 0x4020 ≤ a.toNat) (hhi : a.toNat < 0x8000) {s : State}
    (hopen : a.toNat < 0x6000 ∨ s.params.prgRamPresent = false) (v : Byte) :
    busRead a s = (Config.openBus s.draws, { s with draws := s.draws + 1 }) ∧ busWrite a v s = s := by
  have hram : ¬ (0x6000 ≤ a.toNat ∧ a.toNat < 0x8000 ∧ s.params.prgRamPresent = true) := by
    rintro ⟨hge, _, hpresent⟩
    obtain hlt | habsent := hopen
    · omega
    · simp [hpresent] at habsent
  rw [busRead_mapperRange hlo, busWrite_mapperRange hlo]
  refine ⟨?_, if_neg hram⟩
  by_cases hlow : a.toNat < 0x6000
  · exact if_pos hlow
  · exact (if_neg hlow).trans ((if_pos hhi).trans (if_neg fun hpresent => hram ⟨by omega, hhi, hpresent⟩))

/-- Settles O54, by the range of the address and the number of banks. -/
theorem baselinePrgMapping : Obligations.BaselinePrgMapping := by
  refine ⟨fun s j hslots hj => ?_, fun s a v hlo hhi hpresent => busAccess_prgRam hlo hhi hpresent v,
    fun s a v hlo hhi hopen => busAccess_open hlo hhi hopen v⟩
  obtain ⟨hslot0, hslot1⟩ := hslots.prgSlots
  have hlower : 0x8000 ≤ (BitVec.ofNat 16 (0x8000 + j)).toNat := by rw [prgLower_toNat hj]; omega
  have hupper : 0x8000 ≤ (BitVec.ofNat 16 (0xC000 + j)).toNat := by rw [prgUpper_toNat hj]; omega
  intro lower upper
  refine ⟨fun hbanks => ?_, fun hbanks => ?_, fun hbanks => ?_, fun hbanks => ⟨?_, ?_⟩, fun v => ⟨?_, ?_⟩⟩
  · rw [busRead_prg hlower, prgByte_lower hj (by omega), hslot0, Nat.mul_zero, Nat.zero_add]
  · rw [busRead_prg hupper, prgByte_upper hj (by omega), hslot1, if_neg (by omega), Nat.mul_zero, Nat.zero_add]
  · rw [busRead_prg hupper, prgByte_upper hj (by omega), hslot1, if_pos hbanks]
  · rw [busRead_prg hlower, prgByte_of_no_bank hbanks]
  · rw [busRead_prg hupper, prgByte_of_no_bank hbanks]
  · exact busWrite_prg hlower v s
  · exact busWrite_prg hupper v s

end Sys2Proof.Machine
end

section
/-! OAM DMA (R670): its copy is a fold of one read and one store over the offsets of the page, and what it leaves in OAM follows from
what each read answers. -/

namespace Sys2Proof.Machine

/-- One byte of the copy: a read of the page at offset `i`, a store at OAMADDR + `i` (R670). -/
def oamCopyByte (page : Byte) (u : State) (i : Nat) : State :=
  let r := busRead (BitVec.ofNat 16 (256 * page.toNat + i)) u
  { r.2 with ppu := { r.2.ppu with oam := cellsWrite r.2.ppu.oam ((r.2.ppu.oamAddr.toNat + i) % 256) r.1 } }

theorem mkWord_ofNat (page : Byte) {i : Nat} (hi : i < 256) :
    mkWord page (BitVec.ofNat 8 i) = BitVec.ofNat 16 (256 * page.toNat + i) := by
  have hpage := page.isLt
  apply BitVec.eq_of_toNat_eq
  rw [mkWord_toNat, BitVec.toNat_ofNat, BitVec.toNat_ofNat]
  omega

theorem oamCopy_eq_foldl (page : Byte) : ∀ (n i : Nat) (s : State), i + n ≤ 256 →
    oamCopy page n i s = (List.range' i n).foldl (oamCopyByte page) s
  | 0, _, _, _ => rfl
  | n + 1, i, s, hle => by
    have hplace (a : Byte) : (a + BitVec.ofNat 8 i).toNat = (a.toNat + i) % 256 := by simp
    rw [oamCopy, List.range'_succ, List.foldl_cons, ← oamCopy_eq_foldl page n (i + 1) _ (by omega),
      mkWord_ofNat page (by omega), hplace]
    rfl

theorem oamDma_eq (page : Byte) (s : State) :
    oamDma page s =
      { (List.range 256).foldl (oamCopyByte page) s with
        dmaCycles := if (s.cpuCycles + s.cost) % 2 = 1 then 514 else 513 } := by
  have hcopy := oamCopy_eq_foldl page 256 0 s (by decide)
  have hcycles : (oamCopy page 256 0 s).cpuCycles = s.cpuCycles := by rw [oamCopy_frame]
  have hcost : (oamCopy page 256 0 s).cost = s.cost := by rw [oamCopy_frame]
  rw [← List.range_eq_range'] at hcopy
  rw [hcopy] at hcycles hcost
  simp only [oamDma, hcopy, hcycles, hcost, beq_iff_eq]

/-! ## OAMADDR -/

theorem busRead_oamAddr (a : Word) (s : State) : (busRead a s).2.ppu.oamAddr = s.ppu.oamAddr := by
  unfold busRead ppuRegRead readPpuData readPpuStatus readApuStatus readPad mapperRead drawOpenBus advanceV
  simp only
  repeat' split
  all_goals rfl

theorem foldl_oamCopyByte_oamAddr (page : Byte) (is : List Nat) (s : State) :
    (is.foldl (oamCopyByte page) s).ppu.oamAddr = s.ppu.oamAddr := by
  induction is generalizing s with
  | nil => rfl
  | cons i is ih => exact (ih _).trans (busRead_oamAddr _ s)

theorem oamDma_oamAddr (page : Byte) (s : State) : (oamDma page s).ppu.oamAddr = s.ppu.oamAddr := by
  rw [oamDma_eq]
  exact foldl_oamCopyByte_oamAddr page (List.range 256) s

/-! ## What the copy leaves in OAM -/

/-- The state after `n` bytes of the copy from a page whose reads answer `byte`: `draws n` open reads were made in all, and OAM holds
the bytes from OAMADDR on. -/
def Copied (s : State) (byte : Byte → Byte) (draws : Nat → Nat) (n : Nat) (t : State) : Prop :=
  Memory.wf t.ppu.oam = true ∧ t = { s with draws := draws n, ppu := { s.ppu with oam := t.ppu.oam } } ∧
    ∀ i : Byte, cellsRead t.ppu.oam (s.ppu.oamAddr + i).toNat =
      if i.toNat < n then byte i else cellsRead s.ppu.oam (s.ppu.oamAddr + i).toNat

/-- Each read of the page answers `byte` of its offset and makes the next of `draws`, whatever OAM holds. -/
def PageReads (s : State) (page : Byte) (byte : Byte → Byte) (draws : Nat → Nat) : Prop :=
  ∀ n, n < 256 → ∀ oam : Memory,
    busRead (BitVec.ofNat 16 (256 * page.toNat + n)) { s with draws := draws n, ppu := { s.ppu with oam := oam } } =
      (byte (BitVec.ofNat 8 n), { s with draws := draws (n + 1), ppu := { s.ppu with oam := oam } })

section
variable {s : State} {page : Byte} {byte : Byte → Byte} {draws : Nat → Nat}

theorem Copied.next {n : Nat} {t : State} (hreads : PageReads s page byte draws) (hn : n < 256) (h : Copied s byte draws n t) :
    Copied s byte draws (n + 1) (oamCopyByte page t n) := by
  obtain ⟨hwf, ht, hcells⟩ := h
  have hread : busRead (BitVec.ofNat 16 (256 * page.toNat + n)) t =
      (byte (BitVec.ofNat 8 n), { s with draws := draws (n + 1), ppu := { s.ppu with oam := t.ppu.oam } }) := by
    rw [ht]
    exact hreads n hn t.ppu.oam
  have hbyte : oamCopyByte page t n =
      { s with draws := draws (n + 1), ppu := { s.ppu with
          oam := cellsWrite t.ppu.oam ((s.ppu.oamAddr.toNat + n) % 256) (byte (BitVec.ofNat 8 n)) } } := by
    rw [oamCopyByte, hread]
  rw [hbyte]
  refine ⟨cellsWrite_wf hwf _ _, rfl, fun i => ?_⟩
  have hplace : (s.ppu.oamAddr + i).toNat = (s.ppu.oamAddr.toNat + n) % 256 ↔ i.toNat = n := by
    have hi := i.isLt
    rw [BitVec.toNat_add]
    omega
  simp only [cellsRead_cellsWrite hwf, hplace, hcells]
  obtain hlt | rfl | hgt := Nat.lt_trichotomy i.toNat n
  · rw [if_neg (by omega), if_pos hlt, if_pos (by omega)]
  · rw [if_pos rfl, if_pos (Nat.lt_succ_self _), BitVec.ofNat_toNat, BitVec.setWidth_eq]
  · rw [if_neg (by omega), if_neg (by omega), if_neg (by omega)]

theorem copied_foldl (hreads : PageReads s page byte draws) (hdraws : draws 0 = s.draws) (hoam : Memory.wf s.ppu.oam = true)
    {n : Nat} (hn : n ≤ 256) : Copied s byte draws n ((List.range n).foldl (oamCopyByte page) s) := by
  induction n with
  | zero => exact ⟨hoam, by rw [hdraws]; rfl, fun i => (if_neg (Nat.not_lt_zero _)).symm⟩
  | succ n ih =>
    rw [List.range_succ, List.foldl_append]
    exact (ih (by omega)).next hreads (by omega)

/-- What OAM DMA does from a page whose reads are known. -/
theorem oamDma_of_pageReads (hreads : PageReads s page byte draws) (hdraws : draws 0 = s.draws)
    (hoam : Memory.wf s.ppu.oam = true) :
    (∀ i : Byte, cellsRead (oamDma page s).ppu.oam (s.ppu.oamAddr + i).toNat = byte i) ∧
    oamDma page s =
      { s with
        ppu := { s.ppu with oam := (oamDma page s).ppu.oam }, draws := draws 256,
        dmaCycles := if (s.cpuCycles + s.cost) % 2 = 1 then 514 else 513 } := by
  obtain ⟨-, hstate, hcells⟩ := copied_foldl hreads hdraws hoam (Nat.le_refl 256)
  rw [oamDma_eq]
  refine ⟨fun i => (hcells i).trans (if_pos i.isLt), ?_⟩
  simp only
  rw [hstate]

end

/-! ## The two kinds of page -/

/-- A page of RAM, of PRG ROM or of the PRG RAM that is present. -/
theorem peek_page {s : State} {page : Byte}
    (hpage : page.toNat < 0x20 ∨ 0x80 ≤ page.toNat ∨ (0x60 ≤ page.toNat ∧ s.params.prgRamPresent = true)) (i : Byte) :
    peek s (mkWord page i) = some (busRead (mkWord page i) s).1 := by
  have hi := i.isLt
  have haddr := mkWord_toNat page i
  have hstored : ∃ v, peek s (mkWord page i) = some v := by
    unfold peek
    obtain hram | hprg | ⟨hprgRam, hpresent⟩ := hpage
    · exact ⟨_, if_pos (by omega)⟩
    · exact ⟨_, (if_neg (by omega)).trans ((if_neg (by omega)).trans (if_neg (by omega)))⟩
    · rw [if_neg (by omega), if_neg (by omega), if_pos hpresent]
      split
      · exact ⟨_, rfl⟩
      · exact ⟨_, rfl⟩
  obtain ⟨v, hv⟩ := hstored
  rw [hv, busRead_of_peek hv]

theorem pageReads_of_peek {s : State} {page : Byte} {byte : Byte → Byte} (h : ∀ i, peek s (mkWord page i) = some (byte i)) :
    PageReads s page byte (fun _ => s.draws) := by
  intro n hn oam
  rw [← mkWord_ofNat page hn]
  exact busRead_of_peek (h _)

theorem pageReads_open {s : State} {page : Byte} (hlo : 0x41 ≤ page.toNat) (hhi : page.toNat < 0x80)
    (hopen : page.toNat < 0x60 ∨ s.params.prgRamPresent = false) :
    PageReads s page (fun i => Config.openBus (s.draws + i.toNat)) (fun n => s.draws + n) := by
  intro n hn oam
  have haddr := mkWord_toNat page (BitVec.ofNat 8 n)
  have hoffset : (BitVec.ofNat 8 n).toNat = n := by rw [BitVec.toNat_ofNat, Nat.mod_eq_of_lt hn]
  have hread (u : State) (hparams : u.params = s.params) :
      busRead (mkWord page (BitVec.ofNat 8 n)) u = (Config.openBus u.draws, { u with draws := u.draws + 1 }) :=
    (busAccess_open (by omega) (by omega) (hopen.imp (fun h => by omega) (hparams ▸ ·)) 0).1
  rw [← mkWord_ofNat page hn, hread _ (by rfl)]
  simp only [hoffset, Nat.add_assoc]

/-- Settles O48: the copy is the fold, and each kind of page has its own reads. -/
theorem oamDmaCopiesAPage : Obligations.OamDmaCopiesAPage := by
  intro s page
  refine ⟨oamDma_eq page s, oamDma_oamAddr page s, fun hoam => ⟨fun hpage => ?_, fun hlo hhi hopen => ?_⟩⟩
  · obtain ⟨hcells, hstate⟩ := oamDma_of_pageReads (pageReads_of_peek (peek_page hpage)) rfl hoam
    exact ⟨fun i => (congrArg some (hcells i)).trans (peek_page hpage i).symm, hstate⟩
  · exact oamDma_of_pageReads (pageReads_open hlo hhi hopen) rfl hoam

end Sys2Proof.Machine
end

section
/-! The host's loads and snapshots (R601, R607, R630, R691, R695, R696). -/

namespace Sys2Proof.Machine

/-! ## Loading an image -/

theorem imageMagicOk_iff (img : List Byte) : imageMagicOk img = true ↔ img.take 4 = [0x4E, 0x45, 0x53, 0x1A] := beq_iff_eq

/-- Of the mapper a reset sequence changes the slots alone (R800). -/
theorem resetSequence_mapper (s : State) : (resetSequence s).mapper = mapperSlots s.cart s.mapper := by
  obtain ⟨_, _, _, _, _, hmapper, _⟩ := advance_keeps 7 (resetEntry s)
  rw [resetSequence, hmapper]
  simp [resetEntry, read16]

/-- Before its reset sequence a load has bound a mapper, with a warning for an id that is not registered (R608, R630). -/
theorem loadedUp_mapper (img : List Byte) (saved : Option (List Byte)) (s : State) :
    (loadedUp img saved s).mapper.bound = true ∧
    (loadedUp img saved s).mapper.warnings = s.mapper.warnings + if imageMapperId img = 0 then 0 else 1 := by
  simp [loadedUp, powerUp, mapperSlots, insertImage, mapperRegistered, parseCart]

section
variable {img : List Byte} (h : imageMagicOk img = true) (n : Nat) (saved : Option (List Byte)) (s : State)
include h

theorem loadReport_of_magic :
    loadReport n img s.params =
      { isValid := true, programBankCount := (imageByte img 4).toNat, characterBankCount := (imageByte img 5).toNat,
        errors := if imageMapperId img = 0 then [] else [.unsupportedMapper], message := Config.errorMessage n,
        progressBefore := (Config.loadProgress n).1, progressAfter := (Config.loadProgress n).2 } := by
  simp only [loadReport, h, if_true, mapperRegistered, beq_iff_eq]
  rfl

theorem afterLoad_mapper :
    (afterLoad img saved s).mapper = mapperSlots (loadedUp img saved s).cart (loadedUp img saved s).mapper := by
  rw [afterLoad, if_pos h, resetSequence_mapper]

end

/-- The percents a load reports are those of its place in the session (R607; log 23). -/
theorem loadReport_progress (n : Nat) (img : List Byte) (par : Params) :
    (loadReport n img par).progressBefore = (Config.loadProgress n).1 ∧
    (loadReport n img par).progressAfter = (Config.loadProgress n).2 := by
  unfold loadReport
  split
  · exact ⟨rfl, rfl⟩
  · exact ⟨rfl, rfl⟩

theorem LoadReport.calls_progress (r : LoadReport) :
    r.calls.filter (fun c => c.error?.isNone) = (r.progressBefore ++ r.progressAfter).map .progress := by
  have hprogress (ps : List Rat) :
      (ps.map LoadCall.progress).filter (fun c => c.error?.isNone) = ps.map .progress :=
    List.filter_eq_self.2 fun c hc => by
      obtain ⟨p, -, rfl⟩ := List.mem_map.1 hc
      rfl
  have herror (es : List LoadError) : (es.map (LoadCall.error · r.message)).filter (fun c => c.error?.isNone) = [] := by
    simp [List.filter_map, Function.comp_def, LoadCall.error?]
  simp only [LoadReport.calls, List.filter_append, hprogress, herror, List.append_nil, List.map_append]

/-! ## Loading a snapshot -/

theorem loadState_of_loadable {s : State} {snap : Snapshot} (hpaused : s.running = false) (hfault : s.fault = none)
    (hversion : snap.version = 1) (r : Bool) : loadState snap r s = .loaded (restored snap r s) := by
  simp [loadState, hpaused, hfault, hversion, snapshotVersion]

/-- Settles O55: an image by its magic and its mapper id, a snapshot by the guards of the load. -/
theorem loaderAndSnapshotOutcomes : Obligations.LoaderAndSnapshotOutcomes := by
  refine ⟨fun n img saved s hmagic => ?_, fun n img saved s hmagic => ?_,
    fun n img saved s => ⟨calls_error? _, ?_⟩, fun s hfault => ?_, fun s snap r hrunning => ?_,
    fun s snap r hpaused hfault => ?_, fun s snap r hpaused hfault hversion => ?_,
    fun s snap r hpaused hfault hversion => ?_⟩
  · have hbad : imageMagicOk img = false := Bool.eq_false_iff.2 fun hgood => hmagic ((imageMagicOk_iff img).1 hgood)
    have hstate : afterLoad img saved s = s := if_neg (by rw [hbad]; decide)
    have hreport : (loadReport n img s.params).isValid = false ∧ (loadReport n img s.params).errors = [.invalidFormat] := by
      simp [loadReport, hbad]
    exact ⟨hstate, hreport.1, hreport.2, rfl, hstate⟩
  · have hgood := (imageMagicOk_iff img).2 hmagic
    have hreport : (loadImage n img saved s).1 = _ := loadReport_of_magic hgood n s
    have hmapper : (loadImage n img saved s).2.mapper = _ := afterLoad_mapper hgood saved s
    obtain ⟨hbound, hwarnings⟩ := loadedUp_mapper img saved s
    rw [hreport, hmapper]
    refine ⟨rfl, hbound, rfl, rfl, fun hid => ⟨if_pos hid, ?_⟩, fun hid => ⟨if_neg hid, ?_⟩, by rw [reply, hreport], rfl⟩
    · exact hwarnings.trans (by rw [if_pos hid, Nat.add_zero])
    · exact hwarnings.trans (by rw [if_neg hid])
  · obtain ⟨hbefore, hafter⟩ := loadReport_progress n img s.params
    rw [LoadReport.calls_progress, loadImage, hbefore, hafter]
  · exact loadState_of_loadable (s := (saveState s).2) rfl hfault rfl s.running
  · simp [loadState, hrunning]
  · simp [loadState, hpaused, Option.isSome_iff_ne_none, hfault]
  · simp [loadState, hpaused, hfault, hversion, snapshotVersion]
  · exact ⟨_, loadState_of_loadable hpaused hfault hversion r, rfl, rfl, rfl, rfl, rfl, rfl⟩

end Sys2Proof.Machine
end

section
/-! The reset sequence (R800): its 7 cycles run the devices with the NMI disabled and the DMC empty, so they raise no interrupt and
touch no stored byte and no port. -/

namespace Sys2Proof.Machine

/-! ## Dots with the NMI disabled -/

theorem iterate_ppuTick_keepsWritten (n : Nat) (s : State) : keepsWritten s.ppu (iterate ppuTick n s).ppu := by
  induction n generalizing s with
  | zero => exact ⟨rfl, rfl, rfl, rfl, rfl⟩
  | succ n ih =>
    obtain ⟨h1, h2, h3, h4, h5⟩ := ppuTick_keepsWritten s
    obtain ⟨k1, k2, k3, k4, k5⟩ := ih (ppuTick s)
    exact ⟨k1.trans h1, k2.trans h2, k3.trans h3, k4.trans h4, k5.trans h5⟩

/-- With NMI_ENABLE 0 no dot latches an NMI (R450). -/
theorem iterate_ppuTick_nmiPending {s : State} (h : nmiEnable s.ppu = false) (n : Nat) :
    (iterate ppuTick n s).nmiPending = s.nmiPending := by
  induction n generalizing s with
  | zero => rfl
  | succ n ih =>
    obtain ⟨hctrl, -⟩ := ppuTick_keepsWritten s
    have hnext : nmiEnable (ppuTick s).ppu = false := by rwa [nmiEnable, hctrl]
    have hquiet : ppuRaisesNmi s.ppu = false := by simp [ppuRaisesNmi, h]
    rw [iterate, ih hnext, ppuTick, hquiet, Bool.or_false]

/-! ## Ticks with the DMC empty -/

@[simp] theorem dmcTimer_irqFlag (c : Dmc) : (dmcTimer c).irqFlag = c.irqFlag := by
  unfold dmcTimer dmcOutputClock
  simp only
  repeat' split
  all_goals rfl

@[simp] theorem apuClock_frame (k : Nat) (a : Apu) : (apuClock k a).frame = (frameTick a).frame := by
  unfold apuClock pulseTimers
  simp only
  split
  · rfl
  · rfl

theorem apuTick_of_empty {s : State} (h : s.apu.dmc.remaining = 0) (k : Nat) :
    apuTick k s = { s with apu := apuClock k s.apu } :=
  dmcReader_of_full_or_empty (.inr (by rw [apuClock_dmc, dmcTimer_remaining, h]))

/-- Before the first raise of the frame flag, the DMC being empty, ticks change the APU alone and raise nothing. -/
theorem apuTicks_of_empty {n : Nat} {s : State} (hempty : s.apu.dmc.remaining = 0) (hn : s.apu.frame.cycle + n < 29829) (k : Nat) :
    ∃ a, apuTicks n k s = { s with apu := a } ∧ a.dmc.irqFlag = s.apu.dmc.irqFlag ∧
      a.frame = { s.apu.frame with cycle := s.apu.frame.cycle + n } := by
  induction n generalizing k s with
  | zero => exact ⟨s.apu, rfl, rfl, rfl⟩
  | succ n ih =>
    have hframe : (apuClock k s.apu).frame = { s.apu.frame with cycle := s.apu.frame.cycle + 1 } := by
      have hlength : 29829 < frameLength s.apu.frame.mode := by cases s.apu.frame.mode <;> decide
      have hflag : decide (s.apu.frame.cycle + 1 = 29829) = false := decide_eq_false (by omega)
      rw [apuClock_frame, frameTick_frame, if_neg (by omega), hflag, Bool.and_false, Bool.false_and, Bool.or_false]
    rw [apuTicks, apuTick_of_empty hempty]
    obtain ⟨a, hstate, hirq, hcycle⟩ := ih (s := { s with apu := apuClock k s.apu })
      (by rw [apuClock_dmc, dmcTimer_remaining, hempty]) (by rw [hframe]; simp only; omega) (k + 1)
    refine ⟨a, hstate, by rw [hirq, apuClock_dmc, dmcTimer_irqFlag], ?_⟩
    rw [hcycle, hframe]
    simp only [Nat.add_assoc, Nat.add_comm 1 n]

/-! ## The reset -/

/-- The state at the end of a reset's first part (R800), the slots being those of the baseline mapping already. -/
def resetStart (s : State) : State :=
  { s with
    ppu := ppuReset s.ppu, apu := apuReset s.apu, nmiPending := false,
    cpu := { s.cpu with
      s := s.cpu.s - s.params.resetSpDecrement, p := { s.cpu.p with i := true }, pc := prgByte s 0xFFFD ++ prgByte s 0xFFFC } }

theorem hostReset_eq {s : State} (hbound : s.mapper.bound = true) (hfault : s.fault = none) (hslots : s.BaselineSlots) :
    hostReset s = advance 7 (resetStart s) := by
  have htaken : (s.mapper.bound && s.fault.isNone) = true := by simp [hbound, hfault]
  have hsame : mapperSlots s.cart s.mapper = s.mapper := hslots.symm
  rw [hostReset, if_pos htaken, resetSequence_eq, hsame]
  rfl

/-- The 7 cycles of a reset as dots, ticks of the APU alone, and the count (R652, R800). -/
theorem advance_resetStart (s : State) :
    ∃ a, advance 7 (resetStart s) = { iterate ppuTick 21 (resetStart s) with apu := a, cpuCycles := s.cpuCycles + 7 } ∧
      a.dmc.irqFlag = false ∧ a.frame = { s.apu.frame with cycle := 7, irqFlag := false } := by
  have hdots : (iterate ppuTick 21 (resetStart s)).apu = apuReset s.apu :=
    congrArg State.apu (iterate_ppuTick_frame 21 (resetStart s))
  obtain ⟨a, hticks, hirq, hframe⟩ := apuTicks_of_empty (n := 7) (s := iterate ppuTick 21 (resetStart s))
    (by rw [hdots]; rfl) (by rw [hdots]; exact (by decide : 0 + 7 < 29829)) s.cpuCycles
  rw [hdots] at hirq hframe
  refine ⟨a, ?_, hirq, hframe⟩
  have hcount := iterate_ppuTick_cpuCycles 21 (resetStart s)
  change ((apuTicks 7 s.cpuCycles (iterate ppuTick 21 (resetStart s))).addCycles 7) = _
  rw [hticks, State.addCycles]
  simp only [hcount]
  rfl

/-- Settles O56: the first part sets what a reset sets, and the devices of its 7 cycles leave all of that alone. -/
theorem resetSequenceEffects : Obligations.ResetSequenceEffects := by
  refine ⟨fun s hbound hfault hslots => ?_, fun s hfault => if_neg (by simp [hfault])⟩
  obtain ⟨a, hadvance, hirq, hframe⟩ := advance_resetStart s
  have hrun := advance_keeps 7 (resetStart s)
  have hbytes (b : Word) : peek (advance 7 (resetStart s)) b = peek s b :=
    (peek_keepsRun hrun b).trans (peek_congr rfl rfl rfl rfl b)
  rw [hadvance] at hrun hbytes
  obtain ⟨hcpu, hfault', hrunning, -, -, hmapper, -⟩ := hrun
  obtain ⟨hctrl, hmask, hntRam, hpalette, hoam⟩ := iterate_ppuTick_keepsWritten 21 (resetStart s)
  have hnmi := iterate_ppuTick_nmiPending (s := resetStart s) (by simp [nmiEnable, resetStart, ppuReset]) 21
  have hports := congrArg State.ports (iterate_ppuTick_frame 21 (resetStart s))
  rw [hostReset_eq hbound hfault hslots, hadvance]
  exact ⟨hcpu, hnmi, congrArg FrameSeq.irqFlag hframe, hirq, rfl, hbytes, hports, hoam, hpalette, hntRam,
    congrArg Mapper.chrRam hmapper, hctrl, hmask, (congrArg FrameSeq.mode hframe :),
    (congrArg FrameSeq.irqInhibit hframe :),
    hfault'.trans hfault, hrunning⟩

end Sys2Proof.Machine
end
